-- ==== Sys2Proof/Word.lean ====
section
/-! DEFINITION. The word types of the T-612: bytes, half words, sequence numbers and timebase readings. -/

namespace Sys2Proof

/-- One byte of a record or a frame (10.1). -/
abbrev Byte := BitVec 8

/-- A two-byte field of a record or a frame (R176), or the CRC register (R177). -/
abbrev Half := BitVec 16

/-- A sequence number: 0..255, wrapping (section 3.4 of the introduction). -/
abbrev Seq := BitVec 8

/-- A reading of the free-running microsecond timebase, 24 bits (section 3.5 of the introduction). -/
abbrev TimeStamp := BitVec 24

/-- A station number 0..7 (section 2.2 of the introduction). -/
abbrev StationNumber := Fin 8

end Sys2Proof
end

