-- ==== Sys2Proof/Syntax.lean ====
section
/-! DEFINITION. The commands of the T-612: one constructor of `Instr` for each row of spec/opcode_table.json, with what the
event brings with it. Fields of records and frames stand here as they are encoded (chapter 10), so that a code or a value out
of range can arrive and be screened, refused or clamped by the rule that owns it (R176). -/

namespace Sys2Proof

/-- The two tooth-wheel channels (R105). -/
inductive Channel
  | a
  | b
  deriving DecidableEq, Repr

/-- The class bit of a frame header: 0 urgent, 1 routine (10.2). -/
inductive FrameClass
  | urgent
  | routine
  deriving DecidableEq, Repr

/-- The receive errors of R79. -/
inductive ReceiveErrorCause
  /-- The last byte is in and the CRC does not match. -/
  | crcMismatch
  /-- The first byte names no kind. -/
  | unknownKind
  /-- The line stayed recessive for 5 µs before the expected length was in. -/
  | shortFrame
  /-- A stop bit was seen dominant and the line turned recessive before 200 µs. -/
  | dominantStop
  deriving DecidableEq, Repr

/-- A frame's header but its kind: bytes 2 and 3 (10.2). -/
structure FrameHeader where
  sender : BitVec 4
  cls : FrameClass
  seq : Seq
  deriving DecidableEq, Repr

/-- The payload of a DEMAND frame, as encoded (10.2). -/
structure DemandPayload where
  demand : Half
  direction : BitVec 4
  gripMode : BitVec 4
  deriving DecidableEq, Repr

/-- The payload of a STATUS frame, as encoded (10.2). -/
structure StatusPayload where
  health : BitVec 2
  rateLimited : Bool
  slipActive : Bool
  noDemand : Bool
  propCap : Half
  retCap : Half
  weight : Half
  axleSpeed : Half
  held : Half
  demandSeq : Seq
  grip : Byte
  deriving DecidableEq, Repr

/-- The payload of a SLIP ALERT frame, as encoded (10.2). -/
structure SlipAlertPayload where
  sense : Byte
  newCap : Half
  newWeight : Half
  slip : Half
  deriving DecidableEq, Repr

/-- The payload of a FAULT frame, as encoded (10.2). -/
structure FaultPayload where
  cause : Byte
  deriving DecidableEq, Repr

/-- The fields of a SETUP record, as encoded, in order of index (R162, 10.3). -/
structure SetupRecord where
  channelCount : Byte
  teeth : Byte
  circumference : Half
  minToothPeriod : Half
  gearRatio : Half
  publishPeriod : Byte
  silenceTimeout : Byte
  demandTimeout : Byte
  measureTimeout : Byte
  rampLimit : Half
  loadTransfer : Byte
  slipSampleInterval : Byte
  slipThreshold : Half
  confirmNumber : Byte
  settleTime : Half
  blockingMode : Byte
  launchSpeed : Half
  withdrawOnSlip : Byte
  recoveryInterval : Half
  recoveryStep : Half
  sagThreshold : Half
  sagCap : Half
  discordBand : Half
  noticeThreshold : Byte
  interimTime : Byte
  deriving DecidableEq, Repr

/-- The fields of a MEASURE record, as encoded (R163, 10.3). -/
structure MeasureRecord where
  seq : Seq
  availProp : Half
  availRet : Half
  voltage : Half
  load : Half
  deriving DecidableEq, Repr

/-- The commands of the block: the rows of spec/opcode_table.json, in the table's order. -/
inductive Instr
  /-- PART_RESET (R143): whether a power-on was part of the reset (R144), and the levels of STN0, STN1, STN2 at its end. -/
  | partReset (powerOn stn0 stn1 stn2 : Bool)
  /-- EXCHANGE_START (R159): a falling edge of PCS_N. -/
  | exchangeStart
  /-- SHORT_EXCHANGE (R160): a rising edge of PCS_N after fewer than 48 whole bytes. -/
  | shortExchange (wholeBytes : Fin 48)
  /-- CHECK_BYTE_FAIL (R178): a record of 48 bytes that do not sum to 0 modulo 256. -/
  | checkByteFail
  /-- UNKNOWN_RECORD_KIND (R168): a record whose kind byte names no incoming kind. -/
  | unknownRecordKind (code : Byte)
  /-- SETUP (R162). -/
  | setup (r : SetupRecord)
  /-- MEASURE (R163). -/
  | measure (r : MeasureRecord)
  /-- TAKE_NOTICE (R165). -/
  | takeNotice
  /-- READ_PEER (R166): the station number named, 0..255. -/
  | readPeer (station : Byte)
  /-- SAFE_REQUEST (R167). -/
  | safeRequest
  /-- RESUME (R152). -/
  | resume
  /-- LINK_RESET_REQUEST (R86). -/
  | linkResetRequest
  /-- NOP (R168). -/
  | nop
  /-- WINDOW_START (R71): a dominant leading edge is seen. -/
  | windowStart
  /-- CLAIM_WON (R77): the own slot comes with no pulse seen in an earlier slot. -/
  | claimWon
  /-- CLAIM_LOST (R76): the slot in which a pulse is seen. -/
  | claimLost (slot : Fin 16)
  /-- FRAME_START (R72): the first dominant edge after the slot holding the pulse. -/
  | frameStart
  /-- BUS_FREE_TIME (R73): the line has been recessive for 5 µs. -/
  | busFreeTime
  /-- DEMAND_FRAME (R46): a good DEMAND frame ends. -/
  | demandFrame (h : FrameHeader) (p : DemandPayload)
  /-- STATUS_FRAME (R52): a good STATUS frame ends. -/
  | statusFrame (h : FrameHeader) (p : StatusPayload)
  /-- SLIP_ALERT_FRAME (R59): a good SLIP ALERT frame ends. -/
  | slipAlertFrame (h : FrameHeader) (p : SlipAlertPayload)
  /-- FAULT_FRAME (R58): a good FAULT frame ends. -/
  | faultFrame (h : FrameHeader) (p : FaultPayload)
  /-- RECEIVE_ERROR (R79): a reception ends in a receive error. -/
  | receiveError (cause : ReceiveErrorCause)
  /-- FRAME_SENT (R85): the echo check of the own frame passes to its last stop bit. -/
  | frameSent
  /-- ECHO_CHECK_FAILED (R82): a bit seen differs from the bit driven. -/
  | echoCheckFailed
  /-- RESET_DRIVE_BEGIN (R86): the moment a PENDING reset drive waits for. -/
  | resetDriveBegin
  /-- LINK_RESET_SEEN (R87): dominant has been held for 200 µs. -/
  | linkResetSeen
  /-- RESET_DRIVE_RELEASE (R88): 250 µs after the reset drive began. -/
  | resetDriveRelease
  /-- RESETTING_RELEASED (R74): the line turns recessive while RESETTING. -/
  | resettingReleased
  /-- PUBLISH_TIMER_EXPIRY (R91). -/
  | publishTimerExpiry
  /-- DEMAND_TIMER_EXPIRY (R47). -/
  | demandTimerExpiry
  /-- SILENCE_TIMER_EXPIRY (R60): the silence timer of one peer entry. -/
  | silenceTimerExpiry (peer : StationNumber)
  /-- MEASURE_TIMER_EXPIRY (R155). -/
  | measureTimerExpiry
  /-- COMPUTATION_COMPLETION (R23). -/
  | computationCompletion
  /-- TOOTH_EDGE (R107): a rising edge on a channel, at a reading of the timebase. -/
  | toothEdge (ch : Channel) (time : TimeStamp)
  /-- STOP_TIMER_EXPIRY (R112). -/
  | stopTimerExpiry (ch : Channel)
  /-- SLIP_SAMPLE (R122): the sample timer expires. -/
  | slipSample
  /-- SETTLE_TIMER_EXPIRY (R121). -/
  | settleTimerExpiry
  /-- GRIP_RECOVERY_EXPIRY (R137). -/
  | gripRecoveryExpiry
  /-- CAP_RECOVERY_EXPIRY (R138). -/
  | capRecoveryExpiry
  /-- INTERIM_TIMER_EXPIRY (R173). -/
  | interimTimerExpiry
  /-- MILLISECOND_TICK (R171). -/
  | millisecondTick
  deriving DecidableEq, Repr

end Sys2Proof
end

