-- ==== Sys2Proof/WellFormed.lean ====
section
/-! DEFINITION. Which commands are events the outside can send. The operand types rule out the rest: a short exchange has
fewer than 48 whole bytes, a claim slot is 0..15. -/

namespace Sys2Proof

/-- The kind byte names one of the eight incoming record kinds (10.4). -/
def isIncomingKind (code : Byte) : Bool := 1#8 ≤ code && code ≤ 8#8

/-- A command is well formed when it is an event its row describes: an UNKNOWN_RECORD_KIND bears a code that no incoming
kind has (R168), and a silence timer belongs to one of the stations 1..7 (section 3.4). -/
def Instr.wellFormed : Instr → Bool
  | .unknownRecordKind code => !isIncomingKind code
  | .silenceTimerExpiry peer => peer != 0
  | .partReset _ _ _ _ | .exchangeStart | .shortExchange _ | .checkByteFail | .setup _ | .measure _ | .takeNotice
  | .readPeer _ | .safeRequest | .resume | .linkResetRequest | .nop | .windowStart | .claimWon | .claimLost _
  | .frameStart | .busFreeTime | .demandFrame _ _ | .statusFrame _ _ | .slipAlertFrame _ _ | .faultFrame _ _
  | .receiveError _ | .frameSent | .echoCheckFailed | .resetDriveBegin | .linkResetSeen | .resetDriveRelease
  | .resettingReleased | .publishTimerExpiry | .demandTimerExpiry | .measureTimerExpiry | .computationCompletion
  | .toothEdge _ _ | .stopTimerExpiry _ | .slipSample | .settleTimerExpiry | .gripRecoveryExpiry
  | .capRecoveryExpiry | .interimTimerExpiry | .millisecondTick => true

end Sys2Proof
end

