-- ==== Sys2Proof/Decode.lean ====
section
/-! DEFINITION. Chapter 10 for what comes in: the bytes of a local-port exchange and of a share-link frame, decoded into the
command they stand for, and the bytes of a record or a frame written from the same layouts; and the bits in which the two ports
carry bytes (R69, R159). The opcode table gives its rows no
bits, so `decodeTableWord` answers none. -/

namespace Sys2Proof

/-- The command a word of the opcode table spells: the table gives no row any bits (98_reader.md). -/
def decodeTableWord (_nbits _w : Nat) : Option Instr := none

/-! ## Bytes (R176) -/

/-- Byte number `k` of a string of bytes numbered from 1. -/
def byteAt (bs : List Byte) (k : Nat) : Byte := bs.getD (k - 1) 0

/-- The two-byte field at bytes `k` and `k + 1`: least significant byte first (R176). -/
def halfAt (bs : List Byte) (k : Nat) : Half := byteAt bs (k + 1) ++ byteAt bs k

/-- The two bytes of a two-byte field, least significant first (R176). -/
def halfBytes (h : Half) : List Byte := [h.extractLsb' 0 8, h.extractLsb' 8 8]

/-- The modulo-256 sum of a string of bytes (R160). -/
def byteSum (bs : List Byte) : Byte := bs.foldl (· + ·) 0

/-- A record's first bytes, padded with zeros to 47, closed by the check byte: the two's complement of the sum of bytes 1
to 47 (R160, R176). -/
def sealRecord (body : List Byte) : List Byte :=
  let b := (body ++ List.replicate 47 0).take 47
  b ++ [-(byteSum b)]

/-! ## Bits on the ports (R69, R159) -/

/-- A byte from its bits, least significant first (R69, R159). -/
def byteOfBits (b0 b1 b2 b3 b4 b5 b6 b7 : Bool) : Byte := BitVec.ofBoolListLE [b0, b1, b2, b3, b4, b5, b6, b7]

/-- The whole bytes of a string of bits clocked in on PSDI, least significant bit first; a partly clocked last byte does not count
(R160; the bit order is that of R159: DEDUCED, log 26). -/
def wholeBytes : List Bool → List Byte
  | b0 :: b1 :: b2 :: b3 :: b4 :: b5 :: b6 :: b7 :: rest => byteOfBits b0 b1 b2 b3 b4 b5 b6 b7 :: wholeBytes rest
  | _ => []

/-- The level of the share link in one bit (R69). -/
inductive Level
  /-- A bit of 0. -/
  | dominant
  /-- A bit of 1, and the level of a line that nobody drives. -/
  | recessive
  deriving DecidableEq, Repr

/-- The level of a bit: a 0 is dominant, a 1 recessive (R69). -/
def Level.ofBit (bit : Bool) : Level := if bit then .recessive else .dominant

/-- The bit of a level (R69). -/
def Level.bit : Level → Bool
  | .dominant => false
  | .recessive => true

/-- A byte on the share link: a dominant start bit, the eight data bits, least significant first, a recessive stop bit (R69). -/
def byteLevels (b : Byte) : List Level :=
  [.dominant, .ofBit (b.getLsbD 0), .ofBit (b.getLsbD 1), .ofBit (b.getLsbD 2), .ofBit (b.getLsbD 3), .ofBit (b.getLsbD 4),
    .ofBit (b.getLsbD 5), .ofBit (b.getLsbD 6), .ofBit (b.getLsbD 7), .recessive]

/-- What a receiver reads from the levels of a reception: the bytes that came in with their stop bit recessive, and whether the
reading ended at a dominant stop bit. -/
structure LineRead where
  bytes : List Byte
  dominantStop : Bool
  deriving DecidableEq, Repr

/-- The reading of the levels of a reception, one level for each bit: recessive levels are quiet until a dominant start bit, and a
dominant stop bit ends the reading (R69, R79). The quiet that ends a reception is a duration: it stands where the levels end
(log 9). -/
def readLevels : List Level → LineRead
  | .recessive :: rest => readLevels rest
  | .dominant :: d0 :: d1 :: d2 :: d3 :: d4 :: d5 :: d6 :: d7 :: stop :: rest =>
    match stop with
    | .dominant => ⟨[], true⟩
    | .recessive =>
      let read := readLevels rest
      ⟨byteOfBits d0.bit d1.bit d2.bit d3.bit d4.bit d5.bit d6.bit d7.bit :: read.bytes, read.dominantStop⟩
  | _ => ⟨[], false⟩

/-! ## CRC (R177) -/

/-- One bit into the CRC register: bit 15 is compared with the data bit, the register shifts left, and takes the generator
when they differed. -/
def crcBit (r : Half) (bit : Bool) : Half :=
  if r.getLsbD 15 != bit then (r <<< 1) ^^^ 0x1021 else r <<< 1

/-- One byte into the CRC register, from bit 7 down to bit 0. -/
def crcByte (r : Half) (b : Byte) : Half :=
  [7, 6, 5, 4, 3, 2, 1, 0].foldl (fun r i => crcBit r (b.getLsbD i)) r

/-- The CRC of a string of bytes: initial value all ones, no final inversion. -/
def crc16 (bs : List Byte) : Half := bs.foldl crcByte 0xFFFF

/-- A frame's bytes but the last two, closed by their CRC. -/
def sealFrame (body : List Byte) : List Byte := body ++ halfBytes (crc16 body)

/-! ## Code values of incoming kinds (10.4) -/

/-- The kind byte of a DEMAND frame. -/
def demandKind : Byte := 0x51
/-- The kind byte of a STATUS frame. -/
def statusKind : Byte := 0x52
/-- The kind byte of a SLIP ALERT frame. -/
def slipAlertKind : Byte := 0x53
/-- The kind byte of a FAULT frame. -/
def faultKind : Byte := 0x54

/-- The length of a frame, header and CRC included, fixed by its kind byte (R78); none where no kind is defined. -/
def frameLength (kind : Byte) : Option Nat :=
  if kind = demandKind then some 8
  else if kind = statusKind then some 18
  else if kind = slipAlertKind then some 12
  else if kind = faultKind then some 6
  else none

/-- How many bytes a reception takes in, from those it has: one until the kind is in, then the kind's length; of an unknown
kind no byte more (R79). -/
def expectedLength : List Byte → Nat
  | [] => 1
  | kind :: _ => (frameLength kind).getD 1

/-! ## Records in (10.3) -/

/-- The fields of a SETUP record by the table of 10.3. -/
def setupFields (bs : List Byte) : SetupRecord where
  channelCount := byteAt bs 2
  teeth := byteAt bs 3
  circumference := halfAt bs 4
  minToothPeriod := halfAt bs 6
  gearRatio := halfAt bs 8
  publishPeriod := byteAt bs 10
  silenceTimeout := byteAt bs 11
  demandTimeout := byteAt bs 12
  measureTimeout := byteAt bs 13
  rampLimit := halfAt bs 14
  loadTransfer := byteAt bs 16
  slipSampleInterval := byteAt bs 17
  slipThreshold := halfAt bs 18
  confirmNumber := byteAt bs 20
  settleTime := halfAt bs 21
  blockingMode := byteAt bs 23
  launchSpeed := halfAt bs 24
  withdrawOnSlip := byteAt bs 26
  recoveryInterval := halfAt bs 27
  recoveryStep := halfAt bs 29
  sagThreshold := halfAt bs 31
  sagCap := halfAt bs 33
  discordBand := halfAt bs 35
  noticeThreshold := byteAt bs 37
  interimTime := byteAt bs 38

/-- The fields of a MEASURE record by the table of 10.3. -/
def measureFields (bs : List Byte) : MeasureRecord where
  seq := byteAt bs 2
  availProp := halfAt bs 3
  availRet := halfAt bs 5
  voltage := halfAt bs 7
  load := halfAt bs 9

/-- The command of a record of 48 bytes that passes its check, by its kind byte (R160, R168, R178). -/
def recordByKind (bs : List Byte) : Instr :=
  if byteAt bs 1 = 1 then .setup (setupFields bs)
  else if byteAt bs 1 = 2 then .measure (measureFields bs)
  else if byteAt bs 1 = 3 then .takeNotice
  else if byteAt bs 1 = 4 then .readPeer (byteAt bs 2)
  else if byteAt bs 1 = 5 then .safeRequest
  else if byteAt bs 1 = 6 then .resume
  else if byteAt bs 1 = 7 then .linkResetRequest
  else if byteAt bs 1 = 8 then .nop
  else .unknownRecordKind (byteAt bs 1)

/-- The command that the end of an exchange is, from the whole bytes received on PSDI: fewer than 48 are a short exchange;
of 48 or more the first 48 form the record, whose bytes must sum to 0 modulo 256 (R160, R178). -/
def recordCommand (bs : List Byte) : Instr :=
  if h : bs.length < 48 then .shortExchange ⟨bs.length, h⟩
  else if byteSum (bs.take 48) ≠ 0 then .checkByteFail
  else recordByKind (bs.take 48)

/-- The bytes of an incoming record, with unused bytes 0 (10.3); none for a command that is no record of a known kind. -/
def recordBytes : Instr → Option (List Byte)
  | .setup r => some (sealRecord (
      [1, r.channelCount, r.teeth] ++ halfBytes r.circumference ++ halfBytes r.minToothPeriod ++ halfBytes r.gearRatio
        ++ [r.publishPeriod, r.silenceTimeout, r.demandTimeout, r.measureTimeout] ++ halfBytes r.rampLimit
        ++ [r.loadTransfer, r.slipSampleInterval] ++ halfBytes r.slipThreshold ++ [r.confirmNumber]
        ++ halfBytes r.settleTime ++ [r.blockingMode] ++ halfBytes r.launchSpeed ++ [r.withdrawOnSlip]
        ++ halfBytes r.recoveryInterval ++ halfBytes r.recoveryStep ++ halfBytes r.sagThreshold ++ halfBytes r.sagCap
        ++ halfBytes r.discordBand ++ [r.noticeThreshold, r.interimTime]))
  | .measure r => some (sealRecord (
      [2, r.seq] ++ halfBytes r.availProp ++ halfBytes r.availRet ++ halfBytes r.voltage ++ halfBytes r.load))
  | .takeNotice => some (sealRecord [3])
  | .readPeer n => some (sealRecord [4, n])
  | .safeRequest => some (sealRecord [5])
  | .resume => some (sealRecord [6])
  | .linkResetRequest => some (sealRecord [7])
  | .nop => some (sealRecord [8])
  | .unknownRecordKind code => some (sealRecord [code])
  | _ => none

/-! ## Frames in (10.2) -/

/-- The class bit: 0 urgent, 1 routine (10.2). -/
def classBit : FrameClass → BitVec 1
  | .urgent => 0
  | .routine => 1

/-- The class a class bit names (10.2). -/
def classOf (b : BitVec 1) : FrameClass := if b = 0 then .urgent else .routine

/-- The header of a frame but its kind, by the table of 10.2. -/
def headerFields (bs : List Byte) : FrameHeader where
  sender := (byteAt bs 2).extractLsb' 0 4
  cls := classOf ((byteAt bs 2).extractLsb' 4 1)
  seq := byteAt bs 3

/-- The three bytes of a frame's header (10.2); unused bits 0. -/
def headerBytes (kind : Byte) (h : FrameHeader) : List Byte :=
  [kind, (0#3 ++ classBit h.cls ++ h.sender : BitVec 8), h.seq]

/-- The payload of a DEMAND frame by the table of 10.2. -/
def demandFields (bs : List Byte) : DemandPayload where
  demand := halfAt bs 4
  direction := (byteAt bs 6).extractLsb' 0 4
  gripMode := (byteAt bs 6).extractLsb' 4 4

/-- The payload of a STATUS frame by the table of 10.2. -/
def statusFields (bs : List Byte) : StatusPayload where
  health := (byteAt bs 4).extractLsb' 0 2
  rateLimited := (byteAt bs 4).getLsbD 4
  slipActive := (byteAt bs 4).getLsbD 5
  noDemand := (byteAt bs 4).getLsbD 6
  propCap := halfAt bs 5
  retCap := halfAt bs 7
  weight := halfAt bs 9
  axleSpeed := halfAt bs 11
  held := halfAt bs 13
  demandSeq := byteAt bs 15
  grip := byteAt bs 16

/-- The payload of a SLIP ALERT frame by the table of 10.2. -/
def slipAlertFields (bs : List Byte) : SlipAlertPayload where
  sense := byteAt bs 4
  newCap := halfAt bs 5
  newWeight := halfAt bs 7
  slip := halfAt bs 9

/-- Byte 4 of a STATUS frame: bits 0-1 health, 4 rate-limited, 5 slip active, 6 no-demand (10.2). -/
def statusByte4 (health : BitVec 2) (rateLimited slipActive noDemand : Bool) : Byte :=
  0#1 ++ BitVec.ofBool noDemand ++ BitVec.ofBool slipActive ++ BitVec.ofBool rateLimited ++ 0#2 ++ health

/-- The bytes of a STATUS frame's payload (10.2). -/
def statusPayloadBytes (p : StatusPayload) : List Byte :=
  [statusByte4 p.health p.rateLimited p.slipActive p.noDemand] ++ halfBytes p.propCap ++ halfBytes p.retCap
    ++ halfBytes p.weight ++ halfBytes p.axleSpeed ++ halfBytes p.held ++ [p.demandSeq, p.grip]

/-- The bytes of a SLIP ALERT frame's payload (10.2). -/
def slipAlertPayloadBytes (p : SlipAlertPayload) : List Byte :=
  [p.sense] ++ halfBytes p.newCap ++ halfBytes p.newWeight ++ halfBytes p.slip

/-- The command of a good frame, by its kind byte (R79, R80). -/
def frameByKind (bs : List Byte) : Instr :=
  if byteAt bs 1 = demandKind then .demandFrame (headerFields bs) (demandFields bs)
  else if byteAt bs 1 = statusKind then .statusFrame (headerFields bs) (statusFields bs)
  else if byteAt bs 1 = slipAlertKind then .slipAlertFrame (headerFields bs) (slipAlertFields bs)
  else .faultFrame (headerFields bs) ⟨byteAt bs 4⟩

/-- The command that the end of a reception is, from the bytes taken in (R79): an unknown kind is found at the first byte,
a string shorter than its kind's length is a short frame, and the CRC over bytes 1 to n - 2 must match bytes n - 1 and n. -/
def frameCommand (bs : List Byte) : Instr :=
  if bs = [] then .receiveError .shortFrame
  else
    match frameLength (byteAt bs 1) with
    | none => .receiveError .unknownKind
    | some n =>
      if bs.length < n then .receiveError .shortFrame
      else if crc16 (bs.take (n - 2)) ≠ halfAt bs (n - 1) then .receiveError .crcMismatch
      else frameByKind (bs.take n)

/-- The command that the end of a reception is, where a dominant stop bit may have ended it short of its expected length (R79). -/
def receptionCommand (bs : List Byte) (dominantStop : Bool) : Instr :=
  if dominantStop ∧ bs.length < expectedLength bs then .receiveError .dominantStop else frameCommand bs

/-- The bytes of a frame, with unused bits 0 (10.2); none for a command that is no frame. -/
def frameBytes : Instr → Option (List Byte)
  | .demandFrame h p => some (sealFrame (headerBytes demandKind h ++ halfBytes p.demand ++ [p.gripMode ++ p.direction]))
  | .statusFrame h p => some (sealFrame (headerBytes statusKind h ++ statusPayloadBytes p))
  | .slipAlertFrame h p => some (sealFrame (headerBytes slipAlertKind h ++ slipAlertPayloadBytes p))
  | .faultFrame h p => some (sealFrame (headerBytes faultKind h ++ [p.cause]))
  | _ => none

end Sys2Proof
end

