-- ==== Sys2Proof/Config.lean ====
section
/-! DEFINITION. What every T-612 has fixed: capacities, limits and fixed times. The spec leaves no value undefined, so there is
no free value here (INVENTORY.md, "What the manual leaves open"). -/

namespace Sys2Proof.Config

/-- Every counter saturates at 255 (section 3.4 of the introduction). -/
def counterMax : Nat := 255

/-- The urgent queue holds up to four frames (R96). -/
def urgentCapacity : Nat := 4

/-- The notice queue holds up to sixteen notices (R171). -/
def noticeCapacity : Nat := 16

/-- A period ring holds up to four periods (R110). -/
def ringCapacity : Nat := 4

/-- Three STATUS frames in unbroken sequence make a join (R54, R102). -/
def joinFrames : Nat := 3

/-- Four compared STATUS frames in a row beyond the band set the discordant flag (R62). -/
def discordLimit : Nat := 4

/-- The echo-failure run at which LINK_MUTE is reported (R84). -/
def muteRun : Nat := 8

/-- The stop timer of a tooth-wheel channel, ms (R112). -/
def stopTime : Nat := 250

/-- The greatest wheel cap, N·m (R12). -/
def wheelCapMax : Nat := 8000

/-- The hysteresis of the sag state, V (R28). -/
def sagHysteresis : Nat := 10

/-- Full grip, in sixteenths (section 2.2 of the introduction). -/
def fullGrip : Nat := 16

/-- The least grip factor, in sixteenths (R133). -/
def leastGrip : Nat := 4

/-- A record of the local port is 48 bytes (R160). -/
def recordLength : Nat := 48

end Sys2Proof.Config
end

