-- ==== Sys2Proof/Machine/State.lean ====
section
/-! DEFINITION. The state of the T-612: every item the data book gives its nine blocks, the queue of commands waiting, and the
state right after a part reset. -/

namespace Sys2Proof.Machine

/-! ## Names in capitals (2.3, 10.4) -/

/-- Station modes (8.1). -/
inductive StationMode
  | unconfigured
  | announcing
  | sharing
  | safe
  deriving DecidableEq, Repr

/-- Class A causes (8.4). -/
inductive FaultCause
  | clash
  | linkMute
  | measureTimeout
  | localRequest
  deriving DecidableEq, Repr

/-- What began the last part reset (R144). -/
inductive ResetCause
  | power
  | pin
  deriving DecidableEq, Repr

/-- The health a STATUS carries (R92). -/
inductive Health
  | joining
  | sharing
  | withdrawn
  deriving DecidableEq, Repr

/-- The direction of travel, stated by the drive unit (2.2). -/
inductive Direction
  | forward
  | reverse
  deriving DecidableEq, Repr

/-- The grip mode, stated by the drive unit (R46). -/
inductive GripMode
  | normal
  | lowGrip
  deriving DecidableEq, Repr

/-- The sense of a demand (3.1 of the introduction). -/
inductive Sense
  | none
  | propulsive
  | retarding
  deriving DecidableEq, Repr

/-- States of the demand record (3.2). -/
inductive DemandState
  | none
  | fresh
  | stale
  deriving DecidableEq, Repr

/-- States of a peer entry (3.4). -/
inductive PeerState
  | absent
  | joining
  | live
  | silent
  | withdrawn
  deriving DecidableEq, Repr

/-- States of the Slip Monitor (7.1). -/
inductive MonitorState
  | off
  | settling
  | watching
  | confirming
  | recovering
  deriving DecidableEq, Repr

/-- Blocking modes of the Slip Monitor (R127). -/
inductive BlockingMode
  | none
  | ramp
  | launch
  | rampAndLaunch
  deriving DecidableEq, Repr

/-- Line states (4.3). -/
inductive LineState
  | busyUnknown
  | free
  | window
  | frame
  | resetting
  deriving DecidableEq, Repr

/-- Claim states (4.1). -/
inductive ClaimState
  | none
  | waiting
  | contending
  | sending
  deriving DecidableEq, Repr

/-- The reset drive (4.1, R86). -/
inductive ResetDrive
  | none
  | pending
  | driving
  deriving DecidableEq, Repr

/-- How far a reception has come (R79): nothing received, a frame in reception, or a reception ended, with the frame's expected
length in (`atLength`) or short of it, after which nothing more is read until FREE. -/
inductive Reception
  | idle
  | receiving
  | ended (atLength : Bool)
  deriving DecidableEq, Repr

/-- The sag state (R28). -/
inductive SagState
  | clear
  | inSag
  deriving DecidableEq, Repr

/-- The computation state of the Split Engine (R1). -/
inductive ComputationState
  | idle
  | busy
  deriving DecidableEq, Repr

/-- Notice kinds (10.4); the code NONE is not a notice but the answer of an empty queue. -/
inductive NoticeKind
  | peerJoined
  | peerSilent
  | peerWithdrawn
  | peerDiscord
  | demandStale
  | demandResumed
  | slipEvent
  | slipRecovered
  | sagEntered
  | sagLeft
  | measureOverrun
  | measureLost
  | clamped
  | echoFail
  | linkResetSeen
  | faultEntered
  | setupAccepted
  deriving DecidableEq, Repr

/-- Incoming record kinds (10.4). -/
inductive RecordKind
  | setup
  | measure
  | takeNotice
  | readPeer
  | safeRequest
  | resume
  | linkResetRequest
  | nop
  deriving DecidableEq, Repr

/-- Refusal reasons of the Local Port (10.4): the REFUSE record's, not a refusal of the model. -/
inductive Reason
  | length
  | check
  | kind
  | notConfigured
  | alreadyConfigured
  | strap
  | range
  | state
  | clash
  | busy
  deriving DecidableEq, Repr

/-- A timer: stopped, or running with the period it was started with, in ms. The time it still has to run is not held
(log 4). -/
inductive Timer
  | stopped
  | running (ms : Nat)
  deriving DecidableEq, Repr

/-- The interim timer of the Local Port (R173). -/
inductive InterimTimer
  | stopped
  | running (ms : Nat)
  | expired
  deriving DecidableEq, Repr

/-! ## The configuration (R162) -/

/-- The configuration an accepted SETUP stores and freezes (R162). -/
structure Setup where
  channelCount : Nat
  teeth : Nat
  circumference : Nat
  minToothPeriod : Nat
  gearRatio : Nat
  publishPeriod : Nat
  silenceTimeout : Nat
  demandTimeout : Nat
  measureTimeout : Nat
  rampLimit : Nat
  loadTransfer : Int
  slipSampleInterval : Nat
  slipThreshold : Nat
  confirmNumber : Nat
  settleTime : Nat
  blockingMode : BlockingMode
  launchSpeed : Nat
  withdrawOnSlip : Bool
  recoveryInterval : Nat
  recoveryStep : Nat
  sagThreshold : Nat
  sagCap : Nat
  discordBand : Nat
  noticeThreshold : Nat
  interimTime : Nat
  deriving DecidableEq, Repr

/-- The configuration before any SETUP. DESIGN CHOICE (log 7): the part has none until a SETUP is accepted. -/
def Setup.unset : Setup where
  channelCount := 0
  teeth := 0
  circumference := 0
  minToothPeriod := 0
  gearRatio := 0
  publishPeriod := 0
  silenceTimeout := 0
  demandTimeout := 0
  measureTimeout := 0
  rampLimit := 0
  loadTransfer := 0
  slipSampleInterval := 0
  slipThreshold := 0
  confirmNumber := 0
  settleTime := 0
  blockingMode := .none
  launchSpeed := 0
  withdrawOnSlip := false
  recoveryInterval := 0
  recoveryStep := 0
  sagThreshold := 0
  sagCap := 0
  discordBand := 0
  noticeThreshold := 0
  interimTime := 0

/-! ## Station Supervisor (8.1) -/

/-- The items of the Station Supervisor. -/
structure Supervisor where
  mode : StationMode
  faultCause : Option FaultCause
  clashBar : Bool
  ownNumber : StationNumber
  resetCause : ResetCause
  measureTimer : Timer
  measureLost : Bool
  joinCount : Nat
  deriving DecidableEq, Repr

/-- The Station Supervisor after a part reset that read these straps (R143, R144). -/
def Supervisor.afterReset (cause : ResetCause) (number : StationNumber) : Supervisor where
  mode := .unconfigured
  faultCause := none
  clashBar := false
  ownNumber := number
  resetCause := cause
  measureTimer := .stopped
  measureLost := false
  joinCount := 0

/-! ## Frames the station sends (chapter 5) -/

/-- The figures of a STATUS (R92), but its health. -/
structure StatusFigures where
  rateLimited : Bool
  slipActive : Bool
  propCap : Nat
  retCap : Nat
  weight : Nat
  axleSpeed : Nat
  held : Int
  /-- Absent exactly when the no-demand flag is set. -/
  demandSeq : Option Seq
  grip : Nat
  deriving DecidableEq, Repr

/-- A STATUS as assembled (R92). -/
structure StatusFrame where
  health : Health
  figures : StatusFigures
  deriving DecidableEq, Repr

/-- The payload of a SLIP ALERT (R135). -/
structure SlipAlert where
  sense : Sense
  newCap : Nat
  newWeight : Nat
  slip : Nat
  deriving DecidableEq, Repr

/-- A frame of the urgent queue (R96, R97). -/
inductive UrgentFrame
  | slipAlert (a : SlipAlert)
  | fault (c : FaultCause)
  deriving DecidableEq, Repr

/-- A frame of the station (5.1). -/
inductive OwnFrame
  | status (f : StatusFrame)
  | urgent (f : UrgentFrame)
  deriving DecidableEq, Repr

/-- The frame in the transmit buffer with its attempt record (4.1, R77, R83). -/
structure TransmitFrame where
  frame : OwnFrame
  seq : Option Seq
  crc : Option Half
  echoFailures : Nat
  deriving DecidableEq, Repr

/-! ## Share Link Controller (4.1) -/

/-- The items of the Share Link Controller. `received` is the receive buffer: the bytes of the frame in reception (R79; log 8).
`ownAbort` marks a reception that goes on behind an own frame that was aborted: its receive error is not counted (R82). -/
structure LinkController where
  line : LineState
  claim : ClaimState
  transmit : Option TransmitFrame
  received : List Byte
  reception : Reception
  ownAbort : Bool
  resetDrive : ResetDrive
  echoRun : Nat
  crcErrors : Nat
  lostClaims : Nat
  framesDropped : Nat
  misplaced : Nat
  deriving DecidableEq, Repr

/-- The Share Link Controller after a part reset (R68). -/
def LinkController.afterReset : LinkController where
  line := .busyUnknown
  claim := .none
  transmit := none
  received := []
  reception := .idle
  ownAbort := false
  resetDrive := .none
  echoRun := 0
  crcErrors := 0
  lostClaims := 0
  framesDropped := 0
  misplaced := 0

/-! ## Frame Scheduler (5.1) -/

/-- The items of the Frame Scheduler. -/
structure Scheduler where
  urgent : List UrgentFrame
  routine : Option StatusFrame
  publishTimer : Timer
  ownSeq : Seq
  deriving DecidableEq, Repr

/-- The Frame Scheduler after a part reset (R90). -/
def Scheduler.afterReset : Scheduler where
  urgent := []
  routine := none
  publishTimer := .stopped
  ownSeq := 0

/-! ## Peer Table (chapter 3) -/

/-- The demand record (3.2). -/
structure DemandRecord where
  state : DemandState
  demand : Int
  direction : Direction
  gripMode : GripMode
  lastSeq : Option Seq
  timer : Timer
  deriving DecidableEq, Repr

/-- The demand record after a part reset and after a link reset (R66, R67). -/
def DemandRecord.cleared : DemandRecord where
  state := .none
  demand := 0
  direction := .forward
  gripMode := .normal
  lastSeq := none
  timer := .stopped

/-- A peer entry (3.4). -/
structure PeerEntry where
  state : PeerState
  joinCount : Nat
  lastSeq : Option Seq
  gaps : Nat
  health : Option Health
  propCap : Nat
  retCap : Nat
  weight : Nat
  axleSpeed : Nat
  reported : Int
  reportedDemandSeq : Option Seq
  rateLimited : Bool
  slipFlag : Bool
  grip : Nat
  lastAlertSlip : Option Nat
  lastFaultCause : Option FaultCause
  discordCount : Nat
  discordant : Bool
  silenceTimer : Timer
  deriving DecidableEq, Repr

/-- A peer entry with every field at its cleared value (3.4). -/
def PeerEntry.cleared : PeerEntry where
  state := .absent
  joinCount := 0
  lastSeq := none
  gaps := 0
  health := none
  propCap := 0
  retCap := 0
  weight := 0
  axleSpeed := 0
  reported := 0
  reportedDemandSeq := none
  rateLimited := false
  slipFlag := false
  grip := 16
  lastAlertSlip := none
  lastFaultCause := none
  discordCount := 0
  discordant := false
  silenceTimer := .stopped

/-- The Peer Table: the demand record and the peer entries by station number. No peer has number 0 or the own number: those
two places stay cleared (log 19). The SELF entry holds nothing (R49). -/
structure PeerTable where
  demand : DemandRecord
  peers : Vector PeerEntry 8
  deriving DecidableEq, Repr

/-- The Peer Table after a part reset (R66). -/
def PeerTable.afterReset : PeerTable where
  demand := .cleared
  peers := Vector.replicate 8 .cleared

/-! ## Wheel Capture Unit (6.1) -/

/-- One tooth-wheel channel. The valid count is the number of periods in the ring. -/
structure WheelChannel where
  enabled : Bool
  lastEdge : Option TimeStamp
  ring : List Nat
  speed : Nat
  stopTimer : Timer
  rejected : Nat
  deriving DecidableEq, Repr

/-- A channel after a part reset (R106). -/
def WheelChannel.afterReset : WheelChannel where
  enabled := false
  lastEdge := none
  ring := []
  speed := 0
  stopTimer := .stopped
  rejected := 0

/-- The Wheel Capture Unit. -/
structure WheelUnit where
  chA : WheelChannel
  chB : WheelChannel
  axleSpeed : Nat
  deriving DecidableEq, Repr

/-- The Wheel Capture Unit after a part reset (R106). -/
def WheelUnit.afterReset : WheelUnit where
  chA := .afterReset
  chB := .afterReset
  axleSpeed := 0

/-! ## Slip Monitor (7.1) -/

/-- A slip cap: its magnitude and the sense it belongs to. -/
structure SlipCap where
  magnitude : Nat
  sense : Sense
  deriving DecidableEq, Repr

/-- The items of the Slip Monitor. -/
structure Monitor where
  state : MonitorState
  lastSense : Sense
  prevRef : Option Nat
  accel : Int
  baseline : Nat
  confirmCount : Nat
  grip : Nat
  slipCap : Option SlipCap
  settleTimer : Timer
  sampleTimer : Timer
  gripTimer : Timer
  capTimer : Timer
  slipEvents : Nat
  deriving DecidableEq, Repr

/-- The Slip Monitor after a part reset (R118). -/
def Monitor.afterReset : Monitor where
  state := .off
  lastSense := .none
  prevRef := none
  accel := 0
  baseline := 0
  confirmCount := 0
  grip := 16
  slipCap := none
  settleTimer := .stopped
  sampleTimer := .stopped
  gripTimer := .stopped
  capTimer := .stopped
  slipEvents := 0

/-! ## Split Engine (1.2) -/

/-- Caps per sense, N·m. -/
structure Caps where
  prop : Nat
  ret : Nat
  deriving DecidableEq, Repr

/-- A MEASURE after the Local Port's clamping (R163). -/
structure Measure where
  seq : Seq
  availProp : Nat
  availRet : Nat
  voltage : Nat
  load : Nat
  deriving DecidableEq, Repr

/-- A peer entry as copied into a snapshot (R4). -/
structure PeerCopy where
  number : StationNumber
  propCap : Nat
  retCap : Nat
  weight : Nat
  reported : Int
  discordant : Bool
  deriving DecidableEq, Repr

/-- The snapshot of a computation (R4). -/
structure Snapshot where
  measure : Measure
  demandState : DemandState
  demand : Int
  direction : Direction
  gripMode : GripMode
  lastSeq : Option Seq
  peers : List PeerCopy
  grip : Nat
  accel : Int
  mode : StationMode
  deriving DecidableEq, Repr

/-- The demand in force (R11). -/
structure DemandInForce where
  dEff : Int
  sense : Sense
  direction : Direction
  gripMode : GripMode
  seqUsed : Option Seq
  deriving DecidableEq, Repr

/-- One entry of a share vector (R22). -/
structure ShareEntry where
  number : StationNumber
  share : Int
  isFixed : Bool
  deriving DecidableEq, Repr

/-- A share vector (R22). -/
structure ShareVector where
  entries : List ShareEntry
  dEff : Int
  sense : Sense
  seqUsed : Option Seq
  shortfall : Nat
  deriving DecidableEq, Repr

/-- The items of the Split Engine. -/
structure SplitEngine where
  state : ComputationState
  voidMark : Bool
  snapshot : Option Snapshot
  inForce : DemandInForce
  ownWeight : Nat
  ownCaps : Caps
  vector : Option ShareVector
  deriving DecidableEq, Repr

/-- The Split Engine after a part reset (R1). -/
def SplitEngine.afterReset : SplitEngine where
  state := .idle
  voidMark := false
  snapshot := none
  inForce := ⟨0, .none, .forward, .normal, none⟩
  ownWeight := 0
  ownCaps := ⟨0, 0⟩
  vector := none

/-! ## Command Stage (2.1) -/

/-- The items of the Command Stage. -/
structure CommandStage where
  held : Int
  motor : Int
  caps : Caps
  sense : Sense
  gripMode : GripMode
  sag : SagState
  rateLimited : Bool
  resultSeq : Seq
  deriving DecidableEq, Repr

/-- The Command Stage after a part reset and after SETUP acceptance (R26). -/
def CommandStage.afterReset : CommandStage where
  held := 0
  motor := 0
  caps := ⟨0, 0⟩
  sense := .none
  gripMode := .normal
  sag := .clear
  rateLimited := false
  resultSeq := 0

/-! ## Local Port (9.1) -/

/-- A notice of the queue (R171). -/
structure Notice where
  kind : NoticeKind
  station : Option StationNumber
  value : Option Nat
  time : BitVec 16
  deriving DecidableEq, Repr

/-- A reply in the reply slot (R161). A NOTICE or a PEER_VIEW is a request: its contents are taken at its send. -/
inductive Reply
  | ack (kind : RecordKind)
  | refuse (kind : Option Byte) (reason : Reason) (index : Option Nat)
  | notice
  | peerView (station : StationNumber)
  deriving DecidableEq, Repr

/-- The contents of a STATE record (R169). -/
structure StateView where
  ownNumber : StationNumber
  mode : StationMode
  faultCause : Option FaultCause
  resetCause : ResetCause
  clashBar : Bool
  resultSeq : Seq
  held : Int
  motor : Int
  rateLimited : Bool
  sagNow : Bool
  effectiveCap : Nat
  dEff : Int
  sense : Sense
  participants : Nat
  shortfall : Nat
  demandState : DemandState
  monitorState : MonitorState
  grip : Nat
  rejectedA : Nat
  rejectedB : Nat
  noticeCount : Nat
  noticesLost : Nat
  overruns : Nat
  sagSeen : Bool
  clamped : Bool
  overrunSeen : Bool
  deriving DecidableEq, Repr

/-- The contents of a PEER_VIEW of the SELF entry (R50). The health is absent while UNCONFIGURED (log 11). -/
structure SelfView where
  number : StationNumber
  mode : StationMode
  health : Option Health
  figures : StatusFigures
  ownSeq : Seq
  joinCount : Nat
  echoRun : Nat
  crcErrors : Nat
  lostClaims : Nat
  framesDropped : Nat
  misplaced : Nat
  slipEvents : Nat
  deriving DecidableEq, Repr

/-- An outgoing record (R159, R179). -/
inductive OutRecord
  | state (v : StateView)
  | ack (kind : RecordKind)
  | refuse (kind : Option Byte) (reason : Reason) (index : Option Nat)
  /-- The notice removed (absent: kind NONE) and the notices left (R165). -/
  | notice (n : Option Notice) (left : Nat)
  /-- PEER_VIEW of station 0 (R48). -/
  | demandView (d : DemandRecord)
  /-- PEER_VIEW of the own number (R50). -/
  | selfView (v : SelfView)
  /-- PEER_VIEW of a peer (R65). -/
  | peerView (station : StationNumber) (e : PeerEntry)
  deriving DecidableEq, Repr

/-- The items of the Local Port. `received` is the receive record buffer: the bytes of the exchange in progress, 0..48 kept
(R158; log 8). `outgoing` is the record sent at the start of the exchange in progress, kept after it as the last one sent
(log 15). -/
structure LocalPort where
  inExchange : Bool
  received : List Byte
  holding : Option Measure
  reply : Option Reply
  notices : List Notice
  interim : InterimTimer
  ntc : Bool
  sagSeen : Bool
  clamped : Bool
  overrunSeen : Bool
  noticesLost : Nat
  overruns : Nat
  msCount : BitVec 16
  outgoing : Option OutRecord
  deriving DecidableEq, Repr

/-- The Local Port after a part reset (R158). -/
def LocalPort.afterReset : LocalPort where
  inExchange := false
  received := []
  holding := none
  reply := none
  notices := []
  interim := .stopped
  ntc := false
  sagSeen := false
  clamped := false
  overrunSeen := false
  noticesLost := 0
  overruns := 0
  msCount := 0
  outgoing := none

/-! ## The machine -/

/-- The state of the part, and the commands waiting for it, first in first out (log 1). -/
structure State where
  pending : List Instr
  timebase : TimeStamp
  config : Setup
  ssv : Supervisor
  slc : LinkController
  fsc : Scheduler
  ptb : PeerTable
  wcu : WheelUnit
  slm : Monitor
  spe : SplitEngine
  cms : CommandStage
  lpt : LocalPort
  deriving DecidableEq, Repr

/-- The part after a part reset with this cause and these straps. The timebase is free-running and is kept; the queue of
commands is the model's own and is kept. -/
def State.afterReset (pending : List Instr) (timebase : TimeStamp) (cause : ResetCause) (number : StationNumber) : State where
  pending := pending
  timebase := timebase
  config := .unset
  ssv := .afterReset cause number
  slc := .afterReset
  fsc := .afterReset
  ptb := .afterReset
  wcu := .afterReset
  slm := .afterReset
  spe := .afterReset
  cms := .afterReset
  lpt := .afterReset

/-- The machine right after reset: a power-on of a part strapped as station 1 (DESIGN CHOICE, log 6), its timebase at 0
(DESIGN CHOICE, log 5), no command waiting. -/
def State.reset : State := .afterReset [] 0 .power 1

/-- Why a command stops the machine: never. No rule of the spec stops the part (INVENTORY.md, "Faults"; log 20). -/
inductive Fault
  deriving DecidableEq, Repr

/-- Why a command has no meaning here. -/
inductive Refusal
  /-- Raised by exec for a command whose row has no meaning yet, with the row's mnemonic. Safe: the machine stops. -/
  | notModelled (mnemonic : String)
  deriving DecidableEq, Repr

end Sys2Proof.Machine
end

