-- ==== Sys2Proof/Machine/Codes.lean ====
section
/-! DEFINITION. The code values of section 10.4, both ways. A code that 10.4 does not define for a field reads as none. -/

namespace Sys2Proof.Machine

/-- Direction: FORWARD 0, REVERSE 1. -/
def Direction.code : Direction → Nat
  | .forward => 0
  | .reverse => 1

/-- The direction a code names. -/
def Direction.ofCode (n : Nat) : Option Direction :=
  if n = 0 then some .forward else if n = 1 then some .reverse else none

/-- Grip mode: NORMAL 0, LOW_GRIP 1. -/
def GripMode.code : GripMode → Nat
  | .normal => 0
  | .lowGrip => 1

/-- The grip mode a code names. -/
def GripMode.ofCode (n : Nat) : Option GripMode :=
  if n = 0 then some .normal else if n = 1 then some .lowGrip else none

/-- Health: JOINING 0, SHARING 1, WITHDRAWN 2. -/
def Health.code : Health → Nat
  | .joining => 0
  | .sharing => 1
  | .withdrawn => 2

/-- The health a code names. -/
def Health.ofCode (n : Nat) : Option Health :=
  if n = 0 then some .joining else if n = 1 then some .sharing else if n = 2 then some .withdrawn else none

/-- Sense: NONE 0, PROPULSIVE 1, RETARDING 2. -/
def Sense.code : Sense → Nat
  | .none => 0
  | .propulsive => 1
  | .retarding => 2

/-- The sense of a SLIP ALERT: codes 1 and 2 only. -/
def Sense.ofAlertCode (n : Nat) : Option Sense :=
  if n = 1 then some .propulsive else if n = 2 then some .retarding else Option.none

/-- Fault cause: CLASH 1, LINK_MUTE 2, MEASURE_TIMEOUT 3, LOCAL_REQUEST 4. -/
def FaultCause.code : FaultCause → Nat
  | .clash => 1
  | .linkMute => 2
  | .measureTimeout => 3
  | .localRequest => 4

/-- The fault cause a code names. -/
def FaultCause.ofCode (n : Nat) : Option FaultCause :=
  if n = 1 then some .clash else if n = 2 then some .linkMute else if n = 3 then some .measureTimeout
  else if n = 4 then some .localRequest else none

/-- Station mode: UNCONFIGURED 0, ANNOUNCING 1, SHARING 2, SAFE 3. -/
def StationMode.code : StationMode → Nat
  | .unconfigured => 0
  | .announcing => 1
  | .sharing => 2
  | .safe => 3

/-- Reset cause: POWER 1, PIN 2. -/
def ResetCause.code : ResetCause → Nat
  | .power => 1
  | .pin => 2

/-- Demand state, and entry state of the demand record: NONE 0, FRESH 1, STALE 2. -/
def DemandState.code : DemandState → Nat
  | .none => 0
  | .fresh => 1
  | .stale => 2

/-- Slip monitor state: OFF 0, SETTLING 1, WATCHING 2, CONFIRMING 3, RECOVERING 4. -/
def MonitorState.code : MonitorState → Nat
  | .off => 0
  | .settling => 1
  | .watching => 2
  | .confirming => 3
  | .recovering => 4

/-- Entry state of the SELF entry: SELF 3. -/
def selfEntryCode : Nat := 3

/-- Entry state of a peer entry: ABSENT 4, JOINING 5, LIVE 6, SILENT 7, WITHDRAWN 8. -/
def PeerState.code : PeerState → Nat
  | .absent => 4
  | .joining => 5
  | .live => 6
  | .silent => 7
  | .withdrawn => 8

/-- The blocking mode a code names: NONE 0, RAMP 1, LAUNCH 2, RAMP_AND_LAUNCH 3. -/
def BlockingMode.ofCode (n : Nat) : Option BlockingMode :=
  if n = 0 then some .none else if n = 1 then some .ramp else if n = 2 then some .launch
  else if n = 3 then some .rampAndLaunch else Option.none

/-- The withdraw on slip a code names: OFF 0, ON 1. -/
def withdrawOfCode (n : Nat) : Option Bool :=
  if n = 0 then some false else if n = 1 then some true else none

/-- Incoming record kinds: SETUP 0x01 to NOP 0x08. -/
def RecordKind.code : RecordKind → Byte
  | .setup => 0x01
  | .measure => 0x02
  | .takeNotice => 0x03
  | .readPeer => 0x04
  | .safeRequest => 0x05
  | .resume => 0x06
  | .linkResetRequest => 0x07
  | .nop => 0x08

/-- Outgoing record kinds: STATE 0x81, ACK 0x82, REFUSE 0x83, NOTICE 0x84, PEER_VIEW 0x85. -/
def OutRecord.code : OutRecord → Byte
  | .state _ => 0x81
  | .ack _ => 0x82
  | .refuse _ _ _ => 0x83
  | .notice _ _ => 0x84
  | .demandView _ => 0x85
  | .selfView _ => 0x85
  | .peerView _ _ => 0x85

/-- Refusal reasons: LENGTH 1 to BUSY 10. -/
def Reason.code : Reason → Nat
  | .length => 1
  | .check => 2
  | .kind => 3
  | .notConfigured => 4
  | .alreadyConfigured => 5
  | .strap => 6
  | .range => 7
  | .state => 8
  | .clash => 9
  | .busy => 10

/-- Notice kinds: PEER_JOINED 1 to SETUP_ACCEPTED 17. -/
def NoticeKind.code : NoticeKind → Nat
  | .peerJoined => 1
  | .peerSilent => 2
  | .peerWithdrawn => 3
  | .peerDiscord => 4
  | .demandStale => 5
  | .demandResumed => 6
  | .slipEvent => 7
  | .slipRecovered => 8
  | .sagEntered => 9
  | .sagLeft => 10
  | .measureOverrun => 11
  | .measureLost => 12
  | .clamped => 13
  | .echoFail => 14
  | .linkResetSeen => 15
  | .faultEntered => 16
  | .setupAccepted => 17

/-- The kind byte of an own frame (10.4). -/
def OwnFrame.kindByte : OwnFrame → Byte
  | .status _ => statusKind
  | .urgent (.slipAlert _) => slipAlertKind
  | .urgent (.fault _) => faultKind

end Sys2Proof.Machine
end

