-- ==== Sys2Proof/Machine/Layout.lean ====
section
/-! DEFINITION. Chapter 10 for what goes out: the bytes of the outgoing records of the local port and of the station's own
frames. An absent optional field is sent as 0, unused bits and bytes are sent as 0 (R176). -/

namespace Sys2Proof.Machine

/-- An unsigned one-byte field. -/
def u8 (n : Nat) : Byte := BitVec.ofNat 8 n

/-- An unsigned two-byte field, least significant byte first (R176). -/
def u16 (n : Nat) : List Byte := halfBytes (BitVec.ofNat 16 n)

/-- A signed two-byte field in two's complement, least significant byte first (R176). -/
def i16 (x : Int) : List Byte := halfBytes (BitVec.ofInt 16 x)

/-- The code of an optional enumerated field, 0 when absent (R176). -/
def optCode {α : Type} (code : α → Nat) : Option α → Nat
  | some a => code a
  | none => 0

/-- A byte of flags, bit 0 first. -/
def flagByte : List Bool → Nat
  | [] => 0
  | b :: bs => b.toNat + 2 * flagByte bs

/-- The class of an own frame: STATUS routine, SLIP ALERT and FAULT urgent (R78). -/
def OwnFrame.cls : OwnFrame → FrameClass
  | .status _ => .routine
  | .urgent _ => .urgent

/-- Byte 4 of the own STATUS, its flags and health (R92, 10.2). -/
def StatusFrame.byte4 (f : StatusFrame) : Byte :=
  statusByte4 (BitVec.ofNat 2 f.health.code) f.figures.rateLimited f.figures.slipActive f.figures.demandSeq.isNone

/-- The payload bytes of an own frame (10.2). -/
def OwnFrame.payload : OwnFrame → List Byte
  | .status f =>
      [f.byte4] ++ u16 f.figures.propCap ++ u16 f.figures.retCap ++ u16 f.figures.weight ++ u16 f.figures.axleSpeed
        ++ i16 f.figures.held ++ [f.figures.demandSeq.getD 0, u8 f.figures.grip]
  | .urgent (.slipAlert a) => [u8 a.sense.code] ++ u16 a.newCap ++ u16 a.newWeight ++ u16 a.slip
  | .urgent (.fault c) => [u8 c.code]

/-- The bytes of an own frame but its CRC: header and payload (10.2). -/
def OwnFrame.body (f : OwnFrame) (own : StationNumber) (seq : Seq) : List Byte :=
  headerBytes f.kindByte ⟨BitVec.ofNat 4 own.val, f.cls, seq⟩ ++ f.payload

/-- The CRC of an own frame, formed once its sequence number is written (R77, R177). -/
def OwnFrame.crc (f : OwnFrame) (own : StationNumber) (seq : Seq) : Half := crc16 (f.body own seq)

/-- The bytes the station drives for the frame in its transmit buffer, once a claim has been won for it (R77). -/
def TransmitFrame.bytes (t : TransmitFrame) (own : StationNumber) : Option (List Byte) :=
  match t.seq, t.crc with
  | some q, some c => some (t.frame.body own q ++ halfBytes c)
  | _, _ => none

/-- The levels of that frame on the share link, one for each bit: its bytes back to back, each start bit after the stop bit before
it at once (R69). -/
def TransmitFrame.levels (t : TransmitFrame) (own : StationNumber) : Option (List Level) :=
  (t.bytes own).map (fun bytes => bytes.flatMap byteLevels)

/-! ## Records out (10.3) -/

/-- Bytes 2 to 27 of a STATE record. -/
def StateView.fields (v : StateView) : List Byte :=
  [u8 v.ownNumber.val, u8 v.mode.code, u8 (optCode FaultCause.code v.faultCause), u8 v.resetCause.code, v.resultSeq]
    ++ i16 v.held ++ i16 v.motor ++ u16 v.effectiveCap ++ i16 v.dEff
    ++ [u8 v.sense.code, u8 v.participants] ++ u16 v.shortfall
    ++ [u8 v.demandState.code, u8 v.monitorState.code, u8 v.grip, u8 v.rejectedA, u8 v.rejectedB, u8 v.noticeCount,
        u8 v.noticesLost, u8 v.overruns,
        u8 (flagByte [v.clashBar, v.rateLimited, v.sagNow, v.sagSeen, v.clamped, v.overrunSeen])]

/-- Bytes 2 to 5 of a REFUSE (R179). -/
def refuseFields (kind : Option Byte) (reason : Reason) (index : Option Nat) : List Byte :=
  [u8 (flagByte [kind.isSome, index.isSome]), kind.getD 0, u8 reason.code, u8 (index.getD 0)]

/-- Bytes 2 to 9 of a NOTICE; kind NONE carries all presence bits clear (R165, R179). -/
def noticeFields (n : Option Notice) (left : Nat) : List Byte :=
  match n with
  | none => [0, 0, 0, 0, 0, 0, 0, 0]
  | some n =>
      [u8 n.kind.code, u8 (flagByte [n.station.isSome, n.value.isSome, true]), u8 (optCode Fin.val n.station)]
        ++ u16 (n.value.getD 0) ++ halfBytes n.time ++ [u8 left]

/-- Bytes 2 to 10 of a PEER_VIEW of the demand record. -/
def DemandRecord.fields (d : DemandRecord) : List Byte :=
  [0, u8 d.state.code, u8 (flagByte [d.lastSeq.isSome])] ++ i16 d.demand
    ++ [u8 d.direction.code, u8 d.gripMode.code, d.lastSeq.getD 0, u8 (d.timer != .stopped).toNat]

/-- Bytes 2 to 27 of a PEER_VIEW of the SELF entry. -/
def SelfView.fields (v : SelfView) : List Byte :=
  [u8 v.number.val, u8 selfEntryCode, u8 (flagByte [false, v.health.isSome, v.figures.demandSeq.isSome]), u8 v.mode.code,
    u8 (optCode Health.code v.health),
    u8 (16 * flagByte [v.figures.rateLimited, v.figures.slipActive, v.figures.demandSeq.isNone])]
    ++ u16 v.figures.propCap ++ u16 v.figures.retCap ++ u16 v.figures.weight ++ u16 v.figures.axleSpeed
    ++ i16 v.figures.held
    ++ [v.figures.demandSeq.getD 0, u8 v.figures.grip, v.ownSeq, u8 v.joinCount, u8 v.echoRun, u8 v.crcErrors,
        u8 v.lostClaims, u8 v.framesDropped, u8 v.misplaced, u8 v.slipEvents]

/-- Bytes 2 to 25 of a PEER_VIEW of a peer entry. -/
def PeerEntry.fields (e : PeerEntry) (n : StationNumber) : List Byte :=
  [u8 n.val, u8 e.state.code,
    u8 (flagByte [e.lastSeq.isSome, e.health.isSome, e.reportedDemandSeq.isSome, e.lastAlertSlip.isSome,
      e.lastFaultCause.isSome]),
    u8 e.joinCount, e.lastSeq.getD 0, u8 e.gaps, u8 (optCode Health.code e.health)]
    ++ u16 e.propCap ++ u16 e.retCap ++ u16 e.weight ++ u16 e.axleSpeed ++ i16 e.reported
    ++ [e.reportedDemandSeq.getD 0, u8 (flagByte [e.rateLimited, e.slipFlag, e.discordant, e.silenceTimer != .stopped]),
        u8 e.grip]
    ++ u16 (e.lastAlertSlip.getD 0) ++ [u8 (optCode FaultCause.code e.lastFaultCause), u8 e.discordCount]

/-- The bytes of an outgoing record after its kind byte (10.3). -/
def OutRecord.fields : OutRecord → List Byte
  | .state v => v.fields
  | .ack k => [k.code]
  | .refuse k r i => refuseFields k r i
  | .notice n left => noticeFields n left
  | .demandView d => d.fields
  | .selfView v => v.fields
  | .peerView n e => e.fields n

/-- The 48 bytes of an outgoing record, its check byte last (R159, R160, R179). -/
def OutRecord.bytes (r : OutRecord) : List Byte := sealRecord (r.code :: r.fields)

/-- Byte number `k` that an exchange clocks out, from 1: the record's 48 bytes, then zeros (R159). -/
def OutRecord.byteOut (r : OutRecord) (k : Nat) : Byte := if k ≤ Config.recordLength then byteAt r.bytes k else 0

/-- The level of PSDO at bit clock `n` of an exchange, from 0: each byte least significant bit first (R159). High impedance
(none) while PCS_N is high (R158). DESIGN CHOICE (log 25): high impedance too while PCS_N is low with no exchange open, after
a part reset that found it low, where R158 says nothing. -/
def LocalPort.psdo (l : LocalPort) (n : Nat) : Option Bool :=
  if l.inExchange then l.outgoing.map (fun r => (r.byteOut (n / 8 + 1)).getLsbD (n % 8)) else none

end Sys2Proof.Machine
end

