-- ==== Sys2Proof/Machine/Flags.lean ====
section
/-! DEFINITION. Flags and lines that follow other state: the notice line, and the flags of a STATUS. -/

namespace Sys2Proof.Machine

/-- The notice line's condition (R174): the queue at the threshold, or a notice waiting with the interim timer EXPIRED. -/
def ntcCondition (threshold count : Nat) (interim : InterimTimer) : Bool :=
  decide (threshold ≤ count) || (decide (1 ≤ count) && interim == .expired)

/-- The notice threshold in force: 1 before SETUP acceptance, then SETUP's (R174). -/
def State.noticeThreshold (s : State) : Nat :=
  if s.ssv.mode = .unconfigured then 1 else s.config.noticeThreshold

/-- The slip active flag: set while the monitor is RECOVERING (R92). -/
def Monitor.slipActive (m : Monitor) : Bool := m.state == .recovering

/-- The SAG_NOW flag (R29). -/
def CommandStage.sagNow (c : CommandStage) : Bool := c.sag == .inSag

/-- The health a STATUS carries in a mode; none while UNCONFIGURED, which sends no STATUS (8.1, R92). -/
def healthOf : StationMode → Option Health
  | .unconfigured => none
  | .announcing => some .joining
  | .sharing => some .sharing
  | .safe => some .withdrawn

/-- The claim slot of a frame: the urgent slot is the station number, the routine slot is 8 plus it (R76). -/
def claimSlot (own : StationNumber) : OwnFrame → Nat
  | .urgent _ => own.val
  | .status _ => 8 + own.val

/-- What the station drives on the share link; between the times it drives, the line is left recessive. -/
inductive LinkDrive
  | nothing
  /-- Dominant for 1 µs in FREE, which opens a claim window (R75). -/
  | openMark
  /-- Dominant for the whole of this claim slot of the window (R76). -/
  | claimPulse (slot : Nat)
  /-- The bits of the frame in the transmit buffer, from the start bit of its first byte to the stop bit of its last (R69, R77). -/
  | ownFrame (levels : List Level)
  /-- Dominant for a link reset (R86). -/
  | resetDominant
  deriving DecidableEq, Repr

/-- What the station drives. While its reset drive is DRIVING, the reset's dominant level (R86). With a frame in its transmit
buffer: contending in FREE, the open mark (R75); in the window it has won, the pulse of its own slot, and nothing more until the
first start bit of its frame, whose edge is the frame start (R76, R77, R72); from there its frame. A contender drives nothing in
the window before its slot, and a loser nothing at all (R76). -/
def State.drive (s : State) : LinkDrive :=
  if s.slc.resetDrive = .driving then .resetDominant
  else
    match s.slc.transmit, s.slc.claim, s.slc.line with
    | some _, .contending, .free => .openMark
    | some t, .sending, .window => .claimPulse (claimSlot s.ssv.ownNumber t.frame)
    | some t, .sending, .frame => .ownFrame ((t.levels s.ssv.ownNumber).getD [])
    | _, _, _ => .nothing

/-- The number of periods a channel's ring holds: its valid count (R110). -/
def WheelChannel.validCount (c : WheelChannel) : Nat := c.ring.length

end Sys2Proof.Machine
end

