-- ==== Sys2Proof/Machine/Operands.lean ====
section
/-! DEFINITION. The operands of the commands, read from their encoded fields: clamps, the ranges of SETUP, and the screening of
received frames. -/

namespace Sys2Proof.Machine

/-! ## Clamps (3.3 of the introduction) -/

/-- A non-negative value forced to at most `hi`. -/
def clampTop (hi n : Nat) : Nat := min n hi

/-- A value forced to the nearer end of `lo..hi`. -/
def clampNat (lo hi n : Nat) : Nat := max lo (min n hi)

/-- A signed value forced to the nearer end of `lo..hi`. -/
def clampInt (lo hi x : Int) : Int := max lo (min x hi)

/-! ## SETUP (R162) -/

/-- A field within its range. -/
def inRange (lo hi n : Nat) : Bool := lo ≤ n && n ≤ hi

/-- For each field of SETUP in order of index: is it in its range, and does it hold a defined code (R162)? -/
def setupChecks (r : SetupRecord) : List (Nat × Bool) :=
  [(1, inRange 1 2 r.channelCount.toNat),
   (2, inRange 30 120 r.teeth.toNat),
   (3, inRange 1200 3600 r.circumference.toNat),
   (4, inRange 20 2000 r.minToothPeriod.toNat),
   (5, inRange 64 1600 r.gearRatio.toNat),
   (6, inRange 1 20 r.publishPeriod.toNat),
   (7, inRange 3 200 r.silenceTimeout.toNat),
   (8, inRange 5 200 r.demandTimeout.toNat),
   (9, inRange 2 50 r.measureTimeout.toNat),
   (10, inRange 10 4000 r.rampLimit.toNat),
   (11, decide (-100 ≤ r.loadTransfer.toInt) && decide (r.loadTransfer.toInt ≤ 100)),
   (12, inRange 1 16 r.slipSampleInterval.toNat),
   (13, inRange 20 500 r.slipThreshold.toNat),
   (14, inRange 1 8 r.confirmNumber.toNat),
   (15, inRange 0 2000 r.settleTime.toNat),
   (16, (BlockingMode.ofCode r.blockingMode.toNat).isSome),
   (17, inRange 0 5000 r.launchSpeed.toNat),
   (18, (withdrawOfCode r.withdrawOnSlip.toNat).isSome),
   (19, inRange 50 1000 r.recoveryInterval.toNat),
   (20, inRange 10 2000 r.recoveryStep.toNat),
   (21, inRange 100 900 r.sagThreshold.toNat),
   (22, inRange 0 8000 r.sagCap.toNat),
   (23, inRange 10 2000 r.discordBand.toNat),
   (24, inRange 1 16 r.noticeThreshold.toNat),
   (25, inRange 1 255 r.interimTime.toNat)]

/-- The index of the first field of SETUP out of range, if any (R162). -/
def firstOutOfRange (r : SetupRecord) : Option Nat :=
  ((setupChecks r).find? (fun c => !c.2)).map Prod.fst

/-- The configuration a SETUP in range stores (R162). -/
def storedSetup (r : SetupRecord) : Setup where
  channelCount := r.channelCount.toNat
  teeth := r.teeth.toNat
  circumference := r.circumference.toNat
  minToothPeriod := r.minToothPeriod.toNat
  gearRatio := r.gearRatio.toNat
  publishPeriod := r.publishPeriod.toNat
  silenceTimeout := r.silenceTimeout.toNat
  demandTimeout := r.demandTimeout.toNat
  measureTimeout := r.measureTimeout.toNat
  rampLimit := r.rampLimit.toNat
  loadTransfer := r.loadTransfer.toInt
  slipSampleInterval := r.slipSampleInterval.toNat
  slipThreshold := r.slipThreshold.toNat
  confirmNumber := r.confirmNumber.toNat
  settleTime := r.settleTime.toNat
  blockingMode := (BlockingMode.ofCode r.blockingMode.toNat).getD .none
  launchSpeed := r.launchSpeed.toNat
  withdrawOnSlip := (withdrawOfCode r.withdrawOnSlip.toNat).getD false
  recoveryInterval := r.recoveryInterval.toNat
  recoveryStep := r.recoveryStep.toNat
  sagThreshold := r.sagThreshold.toNat
  sagCap := r.sagCap.toNat
  discordBand := r.discordBand.toNat
  noticeThreshold := r.noticeThreshold.toNat
  interimTime := r.interimTime.toNat

/-! ## MEASURE (R163) -/

/-- A MEASURE with its fields clamped to 0..10000, 0..10000, 0..1000 V and 0..1000 (R163). -/
def clampMeasure (r : MeasureRecord) : Measure where
  seq := r.seq
  availProp := clampTop 10000 r.availProp.toNat
  availRet := clampTop 10000 r.availRet.toNat
  voltage := clampTop 1000 r.voltage.toNat
  load := clampTop 1000 r.load.toNat

/-- Some field of the MEASURE other than its sequence lies outside its range (R163). -/
def measureOutOfRange (r : MeasureRecord) : Bool :=
  10000 < r.availProp.toNat || 10000 < r.availRet.toNat || 1000 < r.voltage.toNat || 1000 < r.load.toNat

/-! ## Received frames -/

/-- The sender of a frame as a station number: none for 8..15, which can be encoded (10.2). -/
def senderStation (h : FrameHeader) : Option StationNumber :=
  if hlt : h.sender.toNat < 8 then some ⟨h.sender.toNat, hlt⟩ else none

/-- The motor station that sent a STATUS, SLIP ALERT or FAULT: none where the sender is 0 or greater than 7 (R45). -/
def motorSender (h : FrameHeader) : Option StationNumber :=
  match senderStation h with
  | some n => if n = 0 then none else some n
  | none => none

/-- A frame's sender is this station number. -/
def sentBy (h : FrameHeader) (n : StationNumber) : Bool := h.sender.toNat == n.val

/-- A DEMAND that passes screening (R45): sender 0, direction and grip mode defined; its demand clamped (R46). -/
structure DemandContent where
  demand : Int
  direction : Direction
  gripMode : GripMode
  deriving DecidableEq, Repr

/-- The content of a DEMAND, or none where the frame is misplaced (R45, R46). -/
def screenDemand (h : FrameHeader) (p : DemandPayload) : Option DemandContent :=
  if h.sender.toNat ≠ 0 then none
  else
    match Direction.ofCode p.direction.toNat, GripMode.ofCode p.gripMode.toNat with
    | some d, some g => some ⟨clampInt (-16000) 16000 p.demand.toInt, d, g⟩
    | _, _ => none

/-- What a STATUS stores into an entry, each field clamped to its range (R52). -/
structure StatusContent where
  health : Health
  propCap : Nat
  retCap : Nat
  weight : Nat
  axleSpeed : Nat
  reported : Int
  demandSeq : Option Seq
  rateLimited : Bool
  slipActive : Bool
  grip : Nat
  deriving DecidableEq, Repr

/-- The content of a STATUS, or none where its health code is undefined (R45, R52). The demand sequence is absent when the
no-demand flag is set, whatever its field holds. -/
def readStatus (p : StatusPayload) : Option StatusContent :=
  match Health.ofCode p.health.toNat with
  | none => none
  | some health => some
      { health := health
        propCap := clampTop 8000 p.propCap.toNat
        retCap := clampTop 8000 p.retCap.toNat
        weight := clampTop 1000 p.weight.toNat
        axleSpeed := p.axleSpeed.toNat
        reported := clampInt (-8000) 8000 p.held.toInt
        demandSeq := if p.noDemand then none else some p.demandSeq
        rateLimited := p.rateLimited
        slipActive := p.slipActive
        grip := clampNat 4 16 p.grip.toNat }

/-- The content of a SLIP ALERT, its cap, weight and slip clamped, or none where its sense code is undefined (R45, R59). -/
def readSlipAlert (p : SlipAlertPayload) : Option SlipAlert :=
  match Sense.ofAlertCode p.sense.toNat with
  | none => none
  | some sense => some
      { sense := sense
        newCap := clampTop 8000 p.newCap.toNat
        newWeight := clampTop 1000 p.newWeight.toNat
        slip := clampTop 1000 p.slip.toNat }

end Sys2Proof.Machine
end

