-- ==== Sys2Proof/Machine/Division.lean ====
section
/-! DEFINITION. The Split Engine's arithmetic (chapter 1): effective demand, wheel caps, own weight, and the division of demand
by a weighted water-fill. -/

namespace Sys2Proof.Machine

/-! ## Sense and caps (3.1 of the introduction) -/

/-- The sense of a demand in a direction of travel (3.1 of the introduction, R11). -/
def senseOf (demand : Int) (dir : Direction) : Sense :=
  if demand = 0 then .none
  else
    match dir with
    | .forward => if 0 < demand then .propulsive else .retarding
    | .reverse => if 0 < demand then .retarding else .propulsive

/-- The cap for a sense; no cap for NONE. -/
def Caps.ofSense (c : Caps) : Sense → Nat
  | .propulsive => c.prop
  | .retarding => c.ret
  | .none => 0

/-- The slip cap's magnitude where one is held and belongs to this sense (R16, R30, R93). -/
def slipCapFor (cap : Option SlipCap) (sense : Sense) : Option Nat :=
  match cap with
  | some c => if c.sense = sense then some c.magnitude else none
  | none => none

/-- The lesser of a cap and a further cap where there is one. -/
def lesserCap (cap : Nat) : Option Nat → Nat
  | some c => min cap c
  | none => cap

/-- A magnitude with the sign of a demand (R22). -/
def withSignOf (demand : Int) (magnitude : Nat) : Int :=
  if demand < 0 then -(magnitude : Int) else magnitude

/-! ## Effective demand (1.3) -/

/-- The step of the ramp and of a stale demand's decay: the ramp limit, or half of it, at least 5 N·m, under LOW_GRIP (R9,
R34). -/
def rampStep (rampLimit : Nat) : GripMode → Nat
  | .normal => rampLimit
  | .lowGrip => max 5 (rampLimit / 2)

/-- An earlier effective demand moved toward 0 by at most a step (R9). -/
def decayToward0 (d : Int) (step : Nat) : Int :=
  if d.natAbs ≤ step then 0 else if d < 0 then d + step else d - step

/-- The demand in force a computation forms from its snapshot and the demand in force at its start (R8 to R11). -/
def effectiveDemand (sn : Snapshot) (before : DemandInForce) (rampLimit : Nat) : DemandInForce :=
  match sn.demandState with
  | .fresh => ⟨sn.demand, senseOf sn.demand sn.direction, sn.direction, sn.gripMode, sn.lastSeq⟩
  | .stale =>
    let d := decayToward0 before.dEff (rampStep rampLimit sn.gripMode)
    ⟨d, senseOf d sn.direction, sn.direction, sn.gripMode, sn.lastSeq⟩
  | .none => ⟨0, .none, .forward, .normal, none⟩

/-! ## What this station can carry and claim (1.4) -/

/-- The own wheel cap of a sense from its available motor torque and the gear ratio (R12). -/
def wheelCap (gearRatio torque : Nat) : Nat := min Config.wheelCapMax (torque * gearRatio / 640)

/-- The own wheel caps of both senses from a MEASURE (R12). -/
def wheelCaps (gearRatio : Nat) (m : Measure) : Caps := ⟨wheelCap gearRatio m.availProp, wheelCap gearRatio m.availRet⟩

/-- The load transfer ΔL in the forward sense: K_t × a_f / 1000 rounded toward zero, its sign inverted in REVERSE (R13). -/
def loadShift (coefficient accel : Int) : Direction → Int
  | .forward => (coefficient * accel).tdiv 1000
  | .reverse => -((coefficient * accel).tdiv 1000)

/-- The own weight: the effective axle load, clamped to 0..1000, times the grip factor in sixteenths, rounded down (R13). -/
def ownWeightOf (coefficient accel : Int) (dir : Direction) (load grip : Nat) : Nat :=
  (clampInt 0 1000 ((load : Int) + loadShift coefficient accel dir)).toNat * grip / 16

/-! ## Who takes part (1.5) -/

/-- A participant of one division (R15, R16): its cap for the sense, its weight, and what its own report says of it. -/
structure Participant where
  number : StationNumber
  cap : Nat
  weight : Nat
  reported : Int
  discordant : Bool
  deriving DecidableEq, Repr

/-- A copied peer as a participant (R16). -/
def PeerCopy.participant (sense : Sense) (p : PeerCopy) : Participant :=
  ⟨p.number, (Caps.mk p.propCap p.retCap).ofSense sense, p.weight, p.reported, p.discordant⟩

/-- A participant put in order of station number (R15). -/
def insertByNumber (x : Participant) : List Participant → List Participant
  | [] => [x]
  | p :: ps => if x.number < p.number then x :: p :: ps else p :: insertByNumber x ps

/-- The participants: the copied peers, and self where the snapshot's mode is SHARING, in order of station number (R15). -/
def participants (sn : Snapshot) (sense : Sense) (self : Participant) : List Participant :=
  let peers := sn.peers.map (PeerCopy.participant sense)
  if sn.mode = .sharing then insertByNumber self peers else peers

/-! ## Fixed contributions (1.6) -/

/-- The contribution of a discordant participant: its reported command within its cap where it has the sign of D_eff, else 0
(R18). -/
def contribution (dEff : Int) (p : Participant) : Nat :=
  if p.reported ≠ 0 ∧ (p.reported < 0 ↔ dEff < 0) then min p.reported.natAbs p.cap else 0

/-- The sum of the fixed contributions (R18). -/
def fixedSum (dEff : Int) (ps : List Participant) : Nat := ((ps.filter (·.discordant)).map (contribution dEff)).sum

/-! ## The water-fill (1.7) -/

/-- The sum of the caps of a set of participants. -/
def capSum (ps : List Participant) : Nat := (ps.map (·.cap)).sum

/-- The sum of the weights of a set of participants. -/
def weightSum (ps : List Participant) : Nat := (ps.map (·.weight)).sum

/-- A member's target in a pass over `open'` with remainder `m` (R20). -/
def target (open' : List Participant) (m : Nat) (p : Participant) : Nat :=
  if 0 < weightSum open' then m * p.weight / weightSum open' else m / open'.length

/-- The order of the residual's hand-out: decreasing weight, the lower station number first among equal weights (R21). -/
def handOutBefore (p q : Participant) : Bool :=
  q.weight < p.weight || (p.weight == q.weight && p.number ≤ q.number)

/-- A member put in the order of the hand-out (R21). -/
def insertByWeight (x : Participant) : List Participant → List Participant
  | [] => [x]
  | p :: ps => if handOutBefore x p then x :: p :: ps else p :: insertByWeight x ps

/-- The members in the order of the hand-out (R21). -/
def byWeight : List Participant → List Participant
  | [] => []
  | p :: ps => insertByWeight p (byWeight ps)

/-- The residual handed out along the order: each member adds to its target the lesser of what remains and its headroom
(R21). -/
def handOut (goal : Participant → Nat) : Nat → List Participant → List (StationNumber × Nat)
  | _, [] => []
  | r, p :: ps =>
    let extra := min r (p.cap - goal p)
    (p.number, goal p + extra) :: handOut goal (r - extra) ps

/-- What a fill settles: the share magnitude of each open participant, and the shortfall. -/
structure Fill where
  shares : List (StationNumber × Nat)
  shortfall : Nat
  deriving DecidableEq, Repr

/-- The end of a fill in which each member takes its cap (R19). -/
def fillAtCaps (open' : List Participant) (m : Nat) : Fill :=
  ⟨open'.map (fun p => (p.number, p.cap)), m - capSum open'⟩

/-- The end of a fill in which no member saturates: targets, and the residual handed out (R21). -/
def fillAtTargets (open' : List Participant) (m : Nat) : Fill :=
  ⟨handOut (target open' m) (m - (open'.map (target open' m)).sum) (byWeight open'), 0⟩

/-- The water-fill over an open set with a remainder, in at most `passes` passes: the capacity test (R19), then either the
saturated members leave at their caps and a new pass begins, or the targets and the residual end it (R20, R21). A fill ends
within as many passes as its open set has members (1.7). -/
def waterFill : (passes : Nat) → List Participant → Nat → Fill
  | 0, open', m => fillAtCaps open' m
  | passes + 1, open', m =>
    if capSum open' ≤ m then fillAtCaps open' m
    else
      let full := open'.filter (fun p => p.cap ≤ target open' m p)
      if full = [] then fillAtTargets open' m
      else
        let rest := waterFill passes (open'.filter (fun p => target open' m p < p.cap)) (m - capSum full)
        ⟨full.map (fun p => (p.number, p.cap)) ++ rest.shares, rest.shortfall⟩

/-! ## The share vector (1.8) -/

/-- The share magnitude a fill gave a station, 0 where it gave none. -/
def shareOf (shares : List (StationNumber × Nat)) (n : StationNumber) : Nat :=
  match shares.find? (fun s => s.1 == n) with
  | some s => s.2
  | none => 0

/-- The entries and the shortfall of one division (R17 to R22). -/
structure Division where
  entries : List ShareEntry
  shortfall : Nat
  deriving DecidableEq, Repr

/-- The fill of a division: of the remainder after the fixed contributions, over the open set; nothing where the fixed
contributions reach the demand (R18). -/
def openFill (dEff : Int) (ps : List Participant) : Fill :=
  if dEff.natAbs ≤ fixedSum dEff ps then ⟨[], 0⟩
  else
    let open' := ps.filter (fun p => !p.discordant)
    waterFill open'.length open' (dEff.natAbs - fixedSum dEff ps)

/-- The division of an effective demand among participants (R17 to R22). -/
def divide (dEff : Int) (sense : Sense) (ps : List Participant) : Division :=
  if sense = .none ∨ ps = [] then ⟨ps.map (fun p => ⟨p.number, 0, false⟩), 0⟩
  else
    let fill := openFill dEff ps
    ⟨ps.map (fun p =>
        if p.discordant then ⟨p.number, withSignOf dEff (contribution dEff p), true⟩
        else ⟨p.number, withSignOf dEff (shareOf fill.shares p.number), false⟩),
      fill.shortfall⟩

/-- The entry of a station in a share vector's entries, if it has one. -/
def entryOf (entries : List ShareEntry) (n : StationNumber) : Option ShareEntry := entries.find? (fun e => e.number == n)

/-! ## One computation (1.8) -/

/-- What a computation forms at its completion (R23). -/
structure Result where
  inForce : DemandInForce
  ownWeight : Nat
  ownCaps : Caps
  vector : ShareVector
  ownShare : Int
  deriving DecidableEq, Repr

/-- Self as a participant: the wheel cap of the computation's sense lowered by a slip cap of that sense, and the own weight
(R16). Self is never discordant (R18). -/
def selfParticipant (own : StationNumber) (caps : Caps) (sense : Sense) (slipCap : Option SlipCap) (weight : Nat) :
    Participant :=
  ⟨own, lesserCap (caps.ofSense sense) (slipCapFor slipCap sense), weight, 0, false⟩

/-- The computation evaluated at its completion, from the snapshot, the demand in force at its start, and the slip cap as it
stands now (R5, R8 to R22). -/
def compute (c : Setup) (own : StationNumber) (sn : Snapshot) (before : DemandInForce) (slipCap : Option SlipCap) :
    Result :=
  let inForce := effectiveDemand sn before c.rampLimit
  let caps := wheelCaps c.gearRatio sn.measure
  let weight := ownWeightOf c.loadTransfer sn.accel inForce.direction sn.measure.load sn.grip
  let self := selfParticipant own caps inForce.sense slipCap weight
  let d := divide inForce.dEff inForce.sense (participants sn inForce.sense self)
  { inForce := inForce
    ownWeight := weight
    ownCaps := caps
    vector := ⟨d.entries, inForce.dEff, inForce.sense, inForce.seqUsed, d.shortfall⟩
    ownShare := if sn.mode = .sharing then ((entryOf d.entries own).map (·.share)).getD 0 else 0 }

end Sys2Proof.Machine
end

