-- ==== Sys2Proof/Machine/Command.lean ====
section
/-! DEFINITION. The Command Stage (chapter 2): effective cap, sag, ramp, clamp, conversion to motor torque, and the events that
cut the held command between completions. -/

namespace Sys2Proof.Machine

/-! ## Effective cap and sag (2.2) -/

/-- The sag cap where it applies: IN_SAG with a PROPULSIVE sense in force (R30). -/
def sagCapFor (sag : SagState) (sense : Sense) (sagCap : Nat) : Option Nat :=
  if sag = .inSag ∧ sense = .propulsive then some sagCap else none

/-- The effective cap: the least of the cap in force, the slip cap and the sag cap that apply to the sense in force; 0 when
that is NONE (R30). -/
def CommandStage.effectiveCap (c : CommandStage) (slipCap : Option SlipCap) (sagCap : Nat) : Nat :=
  if c.sense = .none then 0
  else lesserCap (lesserCap (c.caps.ofSense c.sense) (slipCapFor slipCap c.sense)) (sagCapFor c.sag c.sense sagCap)

/-- The sag state after a completion whose MEASURE carried this voltage (R28). -/
def sagAfter (before : SagState) (threshold voltage : Nat) : SagState :=
  match before with
  | .clear => if voltage < threshold then .inSag else .clear
  | .inSag => if threshold + Config.sagHysteresis ≤ voltage then .clear else .inSag

/-- The notice a change of the sag state queues (R28). -/
def sagNotice : SagState → SagState → Option NoticeKind
  | .clear, .inSag => some .sagEntered
  | .inSag, .clear => some .sagLeft
  | .clear, .clear => none
  | .inSag, .inSag => none

/-! ## Ramp and clamp (2.3) -/

/-- The held command after its pass through zero: 0 where its sign differs from that of D_eff (R33). -/
def passZero (held dEff : Int) : Int := if held ≠ 0 ∧ ¬(held < 0 ↔ dEff < 0) then 0 else held

/-- A held command stepped toward a target by at most a ramp step (R34). -/
def rampToward (held target : Int) (step : Nat) : Int :=
  if (target - held).natAbs ≤ step then target else if held < target then held + step else held - step

/-- A signed command clamped in magnitude, its sign kept (R36, R38). -/
def clampMagnitude (x : Int) (cap : Nat) : Int := withSignOf x (min x.natAbs cap)

/-- The ramp step left the held command short of its target and below the effective cap in magnitude (R35). -/
def isRateLimited (ramped target : Int) (cap : Nat) : Bool := ramped ≠ target && ramped.natAbs < cap

/-! ## Motor command (2.4) -/

/-- A held command converted to motor-shaft torque: held × 640 / G rounded half away from zero, clamped to
-10000..+10000 (R37). -/
def motorOf (gearRatio : Nat) (held : Int) : Int :=
  withSignOf held (min 10000 ((held.natAbs * 1280 + gearRatio) / (2 * gearRatio)))

/-! ## Events of the Command Stage -/

/-- What a completion hands the Command Stage, with the mode and the slip cap as they stand then (R23, R25). -/
structure HandOff where
  share : Int
  caps : Caps
  dEff : Int
  sense : Sense
  gripMode : GripMode
  voltage : Nat
  mode : StationMode
  slipCap : Option SlipCap
  deriving DecidableEq, Repr

/-- Steps 1 and 2 of a completion: caps, sense and grip mode in force replaced, sag state updated (R25, R27, R28). -/
def CommandStage.takeCaps (c : CommandStage) (cfg : Setup) (h : HandOff) : CommandStage :=
  { c with caps := h.caps, sense := h.sense, gripMode := h.gripMode, sag := sagAfter c.sag cfg.sagThreshold h.voltage }

/-- The held command after the ramp step of a completion in SHARING with a sense: through zero, then toward the own share
(R31, R33, R34). -/
def rampedHeld (held : Int) (cfg : Setup) (h : HandOff) : Int :=
  rampToward (passZero held h.dEff) h.share (rampStep cfg.rampLimit h.gripMode)

/-- A completion at the Command Stage (R25 to R37, R42). -/
def CommandStage.complete (c : CommandStage) (cfg : Setup) (h : HandOff) : CommandStage :=
  let c := c.takeCaps cfg h
  let cap := c.effectiveCap h.slipCap cfg.sagCap
  if h.mode ≠ .sharing ∨ h.sense = .none then
    { c with held := 0, motor := motorOf cfg.gearRatio 0, rateLimited := false, resultSeq := c.resultSeq + 1 }
  else
    let ramped := rampedHeld c.held cfg h
    let held := clampMagnitude ramped cap
    { c with
      held := held
      motor := motorOf cfg.gearRatio held
      rateLimited := isRateLimited ramped h.share cap
      resultSeq := c.resultSeq + 1 }

/-- The held command after a slip cap set: clamped where the cap belongs to the sense in force (R38). -/
def heldAfterSlipCap (c : CommandStage) (cap : SlipCap) : Int :=
  if cap.sense = c.sense then clampMagnitude c.held cap.magnitude else c.held

/-- A slip cap set at the Command Stage (R38). The rate-limited flag keeps its value. -/
def CommandStage.slipCapSet (c : CommandStage) (cfg : Setup) (cap : SlipCap) : CommandStage :=
  { c with
    held := heldAfterSlipCap c cap
    motor := motorOf cfg.gearRatio (heldAfterSlipCap c cap)
    resultSeq := c.resultSeq + 1 }

/-- The held command brought to 0 by a departure from SHARING for SAFE or by a link reset seen (R40, R41). -/
def CommandStage.zeroed (c : CommandStage) : CommandStage :=
  { c with held := 0, motor := 0, rateLimited := false, resultSeq := c.resultSeq + 1 }

end Sys2Proof.Machine
end

