-- ==== Sys2Proof/Machine/PeerTable.lean ====
section
/-! DEFINITION. The Peer Table's own work (chapter 3): the demand record, the sequence check, the transitions of a peer entry,
and the discord check. Each function names the notice its change queues. -/

namespace Sys2Proof.Machine

/-- A counter one higher, saturating at 255 (3.4 of the introduction). -/
def countUp (n : Nat) : Nat := min Config.counterMax (n + 1)

/-- What a change in the table asks the Local Port to queue: a kind and a value (R64). -/
structure TableNotice where
  kind : NoticeKind
  value : Option Nat
  deriving DecidableEq, Repr

/-! ## Demand record (3.2) -/

/-- The record after an accepted DEMAND (R46). -/
def DemandRecord.accept (c : DemandContent) (seq : Seq) (timeout : Nat) : DemandRecord :=
  { state := .fresh, demand := c.demand, direction := c.direction, gripMode := c.gripMode, lastSeq := some seq,
    timer := .running timeout }

/-- The notice of an accepted DEMAND: DEMAND_RESUMED from STALE (R46). -/
def DemandRecord.acceptNotice (d : DemandRecord) (seq : Seq) : Option TableNotice :=
  if d.state = .stale then some ⟨.demandResumed, some seq.toNat⟩ else none

/-- The record after its timer expired: FRESH becomes STALE, the timer stops, the rest is kept (R47). -/
def DemandRecord.expire (d : DemandRecord) : DemandRecord :=
  { d with state := if d.state = .fresh then .stale else d.state, timer := .stopped }

/-- The notice of a demand timer expiry (R47). -/
def DemandRecord.expireNotice (d : DemandRecord) : Option TableNotice :=
  if d.state = .fresh then some ⟨.demandStale, d.lastSeq.map BitVec.toNat⟩ else none

/-! ## Every frame of a peer (R51) -/

/-- The result of the sequence check (R51). -/
inductive SeqResult
  | inSequence
  | outOfSequence
  | firstHeard
  deriving DecidableEq, Repr

/-- The sequence check of a frame against an entry (R51). -/
def PeerEntry.seqResult (e : PeerEntry) (seq : Seq) : SeqResult :=
  match e.lastSeq with
  | some last => if seq = last + 1 then .inSequence else .outOfSequence
  | none => .firstHeard

/-- The entry after what every applied frame does first: silence timer, gap counter, last sequence (R51). -/
def PeerEntry.hear (e : PeerEntry) (seq : Seq) (timeout : Nat) : PeerEntry :=
  { e with
    silenceTimer := .running timeout
    gaps := if e.seqResult seq = .outOfSequence then countUp e.gaps else e.gaps
    lastSeq := some seq }

/-- The fields an applied STATUS stores (R52). -/
def PeerEntry.store (e : PeerEntry) (c : StatusContent) : PeerEntry :=
  { e with
    health := some c.health
    propCap := c.propCap
    retCap := c.retCap
    weight := c.weight
    axleSpeed := c.axleSpeed
    reported := c.reported
    reportedDemandSeq := c.demandSeq
    rateLimited := c.rateLimited
    slipFlag := c.slipActive
    grip := c.grip }

/-- An entry that leaves LIVE, or is not LIVE, for a state, with a join count: no discord mark and no discord count (R56). -/
def PeerEntry.moveTo (e : PeerEntry) (state : PeerState) (joinCount : Nat) : PeerEntry :=
  { e with state := state, joinCount := joinCount, discordCount := 0, discordant := false }

/-! ## Transitions (R53 to R60) -/

/-- The start of a join from ABSENT, SILENT or WITHDRAWN (R53). -/
def PeerEntry.startJoin (e : PeerEntry) : PeerEntry :=
  { e.moveTo .joining 1 with lastFaultCause := none, lastAlertSlip := none }

/-- A counted STATUS in JOINING (R54): LIVE at three. -/
def PeerEntry.countJoin (e : PeerEntry) (r : SeqResult) : PeerEntry :=
  if r = .inSequence then
    if Config.joinFrames ≤ e.joinCount + 1 then { e with state := .live, joinCount := Config.joinFrames }
    else { e with joinCount := e.joinCount + 1 }
  else { e with joinCount := 1 }

/-- The transition of a STATUS after its fields are stored (R53 to R57). -/
def PeerEntry.onStatus (e : PeerEntry) (r : SeqResult) (health : Health) : PeerEntry :=
  match health with
  | .withdrawn => e.moveTo .withdrawn 0
  | .joining =>
    match e.state with
    | .absent | .silent | .withdrawn => e.startJoin
    | .joining => e.countJoin r
    | .live => e.moveTo .joining 1
  | .sharing =>
    match e.state with
    | .absent | .silent | .withdrawn => e.startJoin
    | .joining => e.countJoin r
    | .live => e

/-- An applied STATUS but its discord check (R51 to R57). -/
def PeerEntry.applyStatus (e : PeerEntry) (seq : Seq) (c : StatusContent) (timeout : Nat) : PeerEntry :=
  ((e.hear seq timeout).store c).onStatus (e.seqResult seq) c.health

/-- The notice of a STATUS's transition: PEER_JOINED on becoming LIVE (R54), PEER_WITHDRAWN on leaving LIVE for WITHDRAWN
(R57). -/
def statusNotice (before after : PeerState) : Option TableNotice :=
  if before = .joining ∧ after = .live then some ⟨.peerJoined, none⟩
  else if before = .live ∧ after = .withdrawn then some ⟨.peerWithdrawn, none⟩
  else none

/-- An applied FAULT (R58). -/
def PeerEntry.applyFault (e : PeerEntry) (seq : Seq) (cause : FaultCause) (timeout : Nat) : PeerEntry :=
  { (e.hear seq timeout).moveTo .withdrawn 0 with lastFaultCause := some cause }

/-- The notice of an applied FAULT: PEER_WITHDRAWN from LIVE, with the cause (R58). -/
def PeerEntry.faultNotice (e : PeerEntry) (cause : FaultCause) : Option TableNotice :=
  if e.state = .live then some ⟨.peerWithdrawn, some cause.code⟩ else none

/-- The figures of a SLIP ALERT stored (R59). -/
def PeerEntry.storeAlert (e : PeerEntry) (a : SlipAlert) : PeerEntry :=
  { e with
    propCap := if a.sense = .propulsive then a.newCap else e.propCap
    retCap := if a.sense = .retarding then a.newCap else e.retCap
    weight := a.newWeight
    lastAlertSlip := some a.slip
    slipFlag := true }

/-- An applied SLIP ALERT (R51, R59): in ABSENT it is taken into the sequence and does nothing more. -/
def PeerEntry.applySlipAlert (e : PeerEntry) (seq : Seq) (a : SlipAlert) (timeout : Nat) : PeerEntry :=
  if e.state = .absent then e.hear seq timeout else (e.hear seq timeout).storeAlert a

/-- The entry after its silence timer expired (R60). -/
def PeerEntry.fallSilent (e : PeerEntry) : PeerEntry :=
  match e.state with
  | .joining | .live => { e.moveTo .silent 0 with silenceTimer := .stopped }
  | .absent | .silent | .withdrawn => { e with silenceTimer := .stopped }

/-- The notice of a silence timer expiry: PEER_SILENT from LIVE (R60). -/
def PeerEntry.silenceNotice (e : PeerEntry) : Option TableNotice :=
  if e.state = .live then some ⟨.peerSilent, none⟩ else none

/-- An entry after a link reset: every field cleared but the gap counter (R67). -/
def PeerEntry.linkReset (e : PeerEntry) : PeerEntry := { PeerEntry.cleared with gaps := e.gaps }

/-! ## Discord (3.5) -/

/-- The share a STATUS is compared with: present only where the vector names this demand sequence and has an entry for the
station without the fixed flag (R24, R61). -/
def comparedShare (v : Option ShareVector) (n : StationNumber) (c : StatusContent) : Option Int :=
  match v with
  | none => none
  | some v =>
    match v.entries.find? (fun e => e.number == n) with
    | none => none
    | some e => if e.isFixed = false ∧ c.demandSeq.isSome ∧ c.demandSeq = v.seqUsed then some e.share else none

/-- The difference a STATUS is judged by, where the discord check is made at all: the entry LIVE before and after, its mark
clear, the STATUS not rate-limited, and a share to compare with (R61, R62). -/
def discordDifference (before after : PeerEntry) (v : Option ShareVector) (n : StationNumber) (c : StatusContent) :
    Option Nat :=
  if before.state = .live ∧ after.state = .live ∧ after.discordant = false ∧ c.rateLimited = false then
    (comparedShare v n c).map (fun share => (c.reported - share).natAbs)
  else none

/-- The entry after a discord check with a difference (R62). -/
def PeerEntry.judgeDiscord (e : PeerEntry) (difference band : Nat) : PeerEntry :=
  if band < difference then
    { e with
      discordCount := e.discordCount + 1
      discordant := decide (Config.discordLimit ≤ e.discordCount + 1) }
  else { e with discordCount := 0 }

/-- The entry after its discord check, where one is made (R61, R62). -/
def PeerEntry.checkDiscord (e : PeerEntry) (difference : Option Nat) (band : Nat) : PeerEntry :=
  match difference with
  | some d => e.judgeDiscord d band
  | none => e

/-- The notice of a discord check: PEER_DISCORD with the difference, where the mark is set (R62). -/
def discordNotice (after : PeerEntry) (difference : Option Nat) (band : Nat) : Option TableNotice :=
  match difference with
  | some d => if (after.judgeDiscord d band).discordant then some ⟨.peerDiscord, some d⟩ else none
  | none => none

/-! ## Reading the table -/

/-- The peer numbers: 1..7 but the own number (R43). -/
def peerNumbers (own : StationNumber) : List StationNumber := [1, 2, 3, 4, 5, 6, 7].filter (fun n => n != own)

/-- The peer entry of a station number. -/
def PeerTable.entry (t : PeerTable) (n : StationNumber) : PeerEntry := t.peers[n]

/-- The table with one peer entry replaced. -/
def PeerTable.withEntry (t : PeerTable) (n : StationNumber) (e : PeerEntry) : PeerTable :=
  { t with peers := t.peers.set n e }

/-- The table after a link reset (R67). -/
def PeerTable.linkReset (t : PeerTable) : PeerTable := ⟨.cleared, t.peers.map PeerEntry.linkReset⟩

/-- An entry that takes part: LIVE with last health SHARING (R4, R124). -/
def PeerEntry.takesPart (e : PeerEntry) : Bool := e.state == .live && e.health == some .sharing

/-- The copy of an entry a snapshot holds (R4). -/
def PeerEntry.copy (e : PeerEntry) (n : StationNumber) : PeerCopy :=
  ⟨n, e.propCap, e.retCap, e.weight, e.reported, e.discordant⟩

/-- The peer copies of a snapshot, in order of station number (R4). -/
def PeerTable.copies (t : PeerTable) (own : StationNumber) : List PeerCopy :=
  ((peerNumbers own).filter (fun n => (t.entry n).takesPart)).map (fun n => (t.entry n).copy n)

end Sys2Proof.Machine
end

