-- ==== Sys2Proof/Machine/Slip.lean ====
section
/-! DEFINITION. The Slip Monitor's own work (chapter 7): entry and exit, reference speed, filtered acceleration, blocking, slip
and its confirmation, and recovery. -/

namespace Sys2Proof.Machine

/-! ## Entry, exit and settling (7.2) -/

/-- Grip is full and no slip cap is in force. -/
def Monitor.recovered (m : Monitor) : Bool := m.grip == Config.fullGrip && m.slipCap == none

/-- The settle timer's expiry (R121). -/
def Monitor.settleExpiry (m : Monitor) : Monitor :=
  { m with
    state := if m.state = .settling then (if m.recovered then .watching else .recovering) else m.state
    settleTimer := .stopped }

/-- SETTLING begun with the settle time; with a settle time of 0 its expiry is taken in the same event (R119, R121, R123). -/
def Monitor.startSettling (m : Monitor) (settleTime : Nat) : Monitor :=
  if settleTime = 0 then { m with state := .settling, settleTimer := .running 0 }.settleExpiry
  else { m with state := .settling, settleTimer := .running settleTime }

/-- Entry into SHARING (R119). -/
def Monitor.enter (m : Monitor) (cfg : Setup) (sense : Sense) : Monitor :=
  { m with sampleTimer := .running cfg.slipSampleInterval, lastSense := sense }.startSettling cfg.settleTime

/-- The monitor going OFF (R120): the sense of the last sample and the event counter are kept. -/
def Monitor.goOff (m : Monitor) : Monitor :=
  { m with
    state := .off
    grip := Config.fullGrip
    slipCap := none
    baseline := 0
    confirmCount := 0
    accel := 0
    prevRef := none
    settleTimer := .stopped
    sampleTimer := .stopped
    gripTimer := .stopped
    capTimer := .stopped }

/-! ## The sample: sense (R123) -/

/-- A change of sense at a sample (R123). -/
def Monitor.changeSense (m : Monitor) (sense : Sense) (settleTime : Nat) : Monitor :=
  { m with baseline := 0, confirmCount := 0, slipCap := none, capTimer := .stopped, lastSense := sense }.startSettling
    settleTime

/-- The sense read by a sample (R123). -/
def Monitor.takeSense (m : Monitor) (sense : Sense) (settleTime : Nat) : Monitor :=
  if sense = m.lastSense then m else m.changeSense sense settleTime

/-! ## Reference speed (7.4) -/

/-- The reference candidates among the peer entries (R124): the sharing ones without slip flag, or, where there is none, all
the sharing ones. -/
def candidates (es : List PeerEntry) : List PeerEntry :=
  let sharing := es.filter (·.takesPart)
  let first := sharing.filter (fun e => !e.slipFlag)
  if first = [] then sharing else first

/-- The reference speed for a sense: the greatest candidate speed in RETARDING, else the least; none without candidates
(R125). -/
def referenceSpeed (sense : Sense) (es : List PeerEntry) : Option Nat :=
  let speeds := (candidates es).map (·.axleSpeed)
  if sense = .retarding then speeds.max? else speeds.min?

/-- The filtered acceleration and the previous reference after a sample (R126). -/
def Monitor.filter (m : Monitor) (ref : Option Nat) (interval : Nat) : Monitor :=
  match ref with
  | none => { m with prevRef := none }
  | some v =>
    match m.prevRef with
    | none => { m with prevRef := some v }
    | some prev =>
      let a : Int := (((v : Int) - (prev : Int)) * 1000).tdiv interval
      { m with prevRef := some v, accel := clampInt (-20000) 20000 (m.accel + (a - m.accel).tdiv 8) }

/-! ## Blocking (7.5) -/

/-- The blocking mode blocks while the held command is rate-limited (R127). -/
def BlockingMode.onRamp (b : BlockingMode) : Bool := b == .ramp || b == .rampAndLaunch

/-- The blocking mode blocks below the launch speed (R127). -/
def BlockingMode.onLaunch (b : BlockingMode) : Bool := b == .launch || b == .rampAndLaunch

/-- A sample with this reference speed is blocked (R127). -/
def Monitor.blocked (m : Monitor) (cfg : Setup) (sense : Sense) (ref : Option Nat) (rateLimited : Bool) : Bool :=
  match ref with
  | none => true
  | some v =>
    m.state == .settling || sense == .none || (cfg.blockingMode.onRamp && rateLimited)
      || (cfg.blockingMode.onLaunch && decide (v < cfg.launchSpeed))

/-- The monitor after a blocked sample (R128). -/
def Monitor.block (m : Monitor) : Monitor :=
  { m with confirmCount := 0, state := if m.state = .confirming then .watching else m.state }

/-! ## Slip and its confirmation (7.6) -/

/-- The slip of the own axle speed against the reference, per-mille, clamped to 1000 (R129). -/
def slipOf (sense : Sense) (own ref : Nat) : Nat :=
  clampTop 1000 (1000 * (if sense = .retarding then ref - own else own - ref) / max ref 500)

/-- The effective threshold (R130). -/
def slipLimit (threshold : Nat) : GripMode → Nat
  | .normal => threshold
  | .lowGrip => max 10 (threshold / 2)

/-- The slip exceeds the baseline by more than the effective threshold (R131). -/
def exceeds (slip baseline limit : Nat) : Bool := decide ((limit : Int) < (slip : Int) - baseline)

/-- The baseline after learning from a quiet slip: one sixteenth of the way, rounded toward zero (R131). -/
def learned (baseline slip : Nat) : Nat := ((baseline : Int) + ((slip : Int) - baseline).tdiv 16).toNat

/-- The monitor after a judged sample that exceeded the threshold, before any slip event (R131, R132). -/
def Monitor.countSlip (m : Monitor) : Monitor :=
  { m with
    confirmCount := m.confirmCount + 1
    state := if m.state = .watching then .confirming else m.state }

/-- The monitor after a judged sample that did not exceed the threshold (R131, R132): only WATCHING learns. -/
def Monitor.quietSlip (m : Monitor) (slip : Nat) : Monitor :=
  { m with
    confirmCount := 0
    state := if m.state = .confirming then .watching else m.state
    baseline := if m.state = .watching then learned m.baseline slip else m.baseline }

/-! ## The slip event (7.7) -/

/-- The grip factor after a slip event (R133). -/
def gripAfterSlip (g : Nat) : Nat := max Config.leastGrip (g / 2)

/-- The slip cap a slip event sets (R134). -/
def newSlipCap (step : Nat) (held : Int) (sense : Sense) : SlipCap := ⟨max step (3 * held.natAbs / 4), sense⟩

/-- The monitor after a slip event: grip (R133), slip cap with withdraw on slip ON (R134), counter, state and timers
(R136). -/
def Monitor.slipEvent (m : Monitor) (cfg : Setup) (sense : Sense) (held : Int) : Monitor :=
  { m with
    grip := gripAfterSlip m.grip
    slipCap := if cfg.withdrawOnSlip then some (newSlipCap cfg.recoveryStep held sense) else m.slipCap
    capTimer := if cfg.withdrawOnSlip then .running cfg.recoveryInterval else m.capTimer
    slipEvents := countUp m.slipEvents
    confirmCount := 0
    state := .recovering
    gripTimer := .running cfg.recoveryInterval }

/-- The new cap of the SLIP ALERT: with withdraw on slip ON the lesser of the slip cap just set and the cap in force, else the
cap in force (R135). -/
def alertCap (cfg : Setup) (capInForce : Nat) (held : Int) (sense : Sense) : Nat :=
  if cfg.withdrawOnSlip then min (newSlipCap cfg.recoveryStep held sense).magnitude capInForce else capInForce

/-! ## Recovery (7.8) -/

/-- RECOVERING ended where grip is full and no slip cap is in force (R139). -/
def Monitor.endsRecovery (m : Monitor) : Bool := m.state == .recovering && m.recovered

/-- The monitor after R139 where it applies. -/
def Monitor.finishRecovery (m : Monitor) : Monitor :=
  if m.endsRecovery then { m with state := .watching, confirmCount := 0 } else m

/-- A grip recovery expiry before R139: grip one higher, the timer stopped at 16 (R137). -/
def Monitor.gripStep (m : Monitor) (interval : Nat) : Monitor :=
  { m with
    grip := min Config.fullGrip (m.grip + 1)
    gripTimer := if Config.fullGrip ≤ m.grip + 1 then .stopped else .running interval }

/-- A cap recovery expiry before R139: the slip cap raised, or lifted where it reaches the cap in force of its sense
(R138). -/
def Monitor.capStep (m : Monitor) (step interval : Nat) (caps : Caps) : Monitor :=
  match m.slipCap with
  | none => { m with capTimer := .stopped }
  | some c =>
    if caps.ofSense c.sense ≤ c.magnitude + step then { m with slipCap := none, capTimer := .stopped }
    else { m with slipCap := some ⟨c.magnitude + step, c.sense⟩, capTimer := .running interval }

end Sys2Proof.Machine
end

