-- ==== Sys2Proof/Machine/Wheel.lean ====
section
/-! DEFINITION. The Wheel Capture Unit (chapter 6): edges, periods, channel speeds and the axle speed. -/

namespace Sys2Proof.Machine

/-- The period of an edge: the edge time minus the last accepted edge time, modulo 2^24, in µs (R108). -/
def edgePeriod (last time : TimeStamp) : Nat := (time - last).toNat

/-- A period pushed into a ring as its newest entry; of five the oldest is dropped (R110). -/
def pushPeriod (ring : List Nat) (p : Nat) : List Nat :=
  if ring.length < Config.ringCapacity then ring ++ [p] else ring.drop 1 ++ [p]

/-- The channel speed from the periods in the ring, clamped to 65535 (R111); 0 from an empty ring. -/
def ringSpeed (circumference teeth : Nat) (ring : List Nat) : Nat :=
  clampTop 65535 (circumference * 1000000 * ring.length / (teeth * ring.sum))

/-- A first edge (R107). -/
def WheelChannel.firstEdge (c : WheelChannel) (time : TimeStamp) : WheelChannel :=
  { c with lastEdge := some time, stopTimer := .running Config.stopTime }

/-- A rejected edge (R109, R114). -/
def WheelChannel.rejectEdge (c : WheelChannel) : WheelChannel := { c with rejected := countUp c.rejected }

/-- An accepted edge (R110). -/
def WheelChannel.acceptEdge (c : WheelChannel) (cfg : Setup) (time : TimeStamp) (period : Nat) : WheelChannel :=
  { c with
    lastEdge := some time
    ring := pushPeriod c.ring period
    speed := ringSpeed cfg.circumference cfg.teeth (pushPeriod c.ring period)
    stopTimer := .running Config.stopTime }

/-- A stop: the stop timer expired (R112). -/
def WheelChannel.stop (c : WheelChannel) : WheelChannel :=
  { c with speed := 0, ring := [], lastEdge := none, stopTimer := .stopped }

/-- A channel at SETUP acceptance: enabled or not, every other item as after a part reset but the rejected-edge counter, which
is kept (R106). -/
def WheelChannel.configured (c : WheelChannel) (enabled : Bool) : WheelChannel :=
  { WheelChannel.afterReset with enabled := enabled, rejected := c.rejected }

/-- A channel of the unit. -/
def WheelUnit.channel (w : WheelUnit) : Channel → WheelChannel
  | .a => w.chA
  | .b => w.chB

/-- The axle speed: the mean of the speeds of the enabled channels, rounded down (R113). -/
def meanSpeed (a b : WheelChannel) : Nat :=
  match a.enabled, b.enabled with
  | true, true => (a.speed + b.speed) / 2
  | true, false => a.speed
  | false, true => b.speed
  | false, false => 0

/-- The unit with one channel replaced and the axle speed recomputed (R113). -/
def WheelUnit.setSpeed (w : WheelUnit) (ch : Channel) (c : WheelChannel) : WheelUnit :=
  match ch with
  | .a => ⟨c, w.chB, meanSpeed c w.chB⟩
  | .b => ⟨w.chA, c, meanSpeed w.chA c⟩

/-- The unit with one channel replaced whose speed is not set: the axle speed keeps its value. -/
def WheelUnit.setChannel (w : WheelUnit) (ch : Channel) (c : WheelChannel) : WheelUnit :=
  match ch with
  | .a => { w with chA := c }
  | .b => { w with chB := c }

/-- An edge at an enabled channel (R107 to R110): a first edge, a rejected one, or an accepted one, which sets the channel
speed and the axle speed. -/
def WheelUnit.edge (w : WheelUnit) (cfg : Setup) (ch : Channel) (time : TimeStamp) : WheelUnit :=
  match (w.channel ch).lastEdge with
  | none => w.setChannel ch ((w.channel ch).firstEdge time)
  | some last =>
    if edgePeriod last time < cfg.minToothPeriod then w.setChannel ch (w.channel ch).rejectEdge
    else w.setSpeed ch ((w.channel ch).acceptEdge cfg time (edgePeriod last time))

/-- The unit at SETUP acceptance: channel A enabled, channel B where the channel count is 2 (R105, R106). -/
def WheelUnit.configured (w : WheelUnit) (channelCount : Nat) : WheelUnit :=
  ⟨w.chA.configured true, w.chB.configured (channelCount == 2), 0⟩

/-- The unit after the send of a STATE record: both rejected-edge counters 0 (R114, R170). -/
def WheelUnit.clearRejected (w : WheelUnit) : WheelUnit :=
  { w with chA := { w.chA with rejected := 0 }, chB := { w.chB with rejected := 0 } }

end Sys2Proof.Machine
end

