-- ==== Sys2Proof/Machine/Ops.lean ====
section
/-! DEFINITION. The operations that several commands share: notices and replies, the assembly of a STATUS, the urgent queue, the
move into the transmit buffer, class A conditions and SAFE entry, entry into SHARING, the start of a computation, exchanges and
receptions. -/

namespace Sys2Proof.Machine

/-! ## Notices (9.5) -/

/-- The notice line set to its condition (R174). -/
def LocalPort.setNtc (l : LocalPort) (threshold : Nat) : LocalPort :=
  { l with ntc := ntcCondition threshold l.notices.length l.interim }

/-- A notice joining the queue, or dropped and counted where it holds sixteen (R171). Joining an empty queue starts the
interim timer once a SETUP has been accepted (R172, R173). -/
def LocalPort.join (l : LocalPort) (n : Notice) (interimTime : Option Nat) : LocalPort :=
  if l.notices.length < Config.noticeCapacity then
    { l with
      notices := l.notices ++ [n]
      interim :=
        match interimTime with
        | some ms => if l.notices = [] then .running ms else l.interim
        | none => l.interim }
  else { l with noticesLost := countUp l.noticesLost }

/-- The interim time, known from SETUP acceptance on (R173). -/
def State.interimTime (s : State) : Option Nat :=
  if s.ssv.mode = .unconfigured then none else some s.config.interimTime

/-- A notice queued with the millisecond count as its timestamp, the notice line following (R171, R174). -/
def State.notify (s : State) (kind : NoticeKind) (station : Option StationNumber) (value : Option Nat) : State :=
  { s with lpt := (s.lpt.join ⟨kind, station, value, s.lpt.msCount⟩ s.interimTime).setNtc s.noticeThreshold }

/-- The notice the Peer Table asks for, if any (R64). -/
def State.notifyTable (s : State) (station : StationNumber) (n : Option TableNotice) : State :=
  match n with
  | some t => s.notify t.kind (some station) t.value
  | none => s

/-- The removal of the oldest notice at the send of a NOTICE (R165): the interim timer stops when the queue empties (R172). -/
def LocalPort.takeOldest (l : LocalPort) : LocalPort :=
  { l with
    notices := l.notices.drop 1
    interim := if l.notices.length ≤ 1 then .stopped else l.interim }

/-! ## Replies and exchanges (9.2) -/

/-- A reply placed in the reply slot, replacing any there (R161). -/
def State.place (s : State) (r : Reply) : State := { s with lpt := { s.lpt with reply := some r } }

/-- The end of an exchange (R160): its bytes leave the receive record buffer, which holds those of an exchange in progress only. -/
def State.endExchange (s : State) : State := { s with lpt := { s.lpt with inExchange := false, received := [] } }

/-- A whole byte clocked in on PSDI: the first 48 of an exchange are kept, and outside an exchange none is read (R158, R160). -/
def LocalPort.receiveByte (l : LocalPort) (b : Byte) : LocalPort :=
  if l.inExchange ∧ l.received.length < Config.recordLength then { l with received := l.received ++ [b] } else l

/-! ## STATUS (5.2) -/

/-- The published cap of a sense: the own wheel cap, lowered by a slip cap held for that sense (R93). -/
def State.publishedCap (s : State) (sense : Sense) : Nat :=
  lesserCap (s.spe.ownCaps.ofSense sense) (slipCapFor s.slm.slipCap sense)

/-- The figures of a STATUS as the blocks hold them now (R92). -/
def State.figures (s : State) : StatusFigures where
  rateLimited := s.cms.rateLimited
  slipActive := s.slm.slipActive
  propCap := s.publishedCap .propulsive
  retCap := s.publishedCap .retarding
  weight := s.spe.ownWeight
  axleSpeed := s.wcu.axleSpeed
  held := s.cms.held
  demandSeq := s.spe.inForce.seqUsed
  grip := s.slm.grip

/-- A STATUS assembled now (R92). -/
def State.assemble (s : State) : Option StatusFrame := (healthOf s.ssv.mode).map (fun h => ⟨h, s.figures⟩)

/-- A STATUS waiting in the routine slot replaced by one assembled now; an empty slot stays empty (R95). -/
def State.replaceRoutine (s : State) : State :=
  { s with fsc := { s.fsc with routine := if s.fsc.routine.isSome then s.assemble else none } }

/-! ## The urgent queue (5.3) -/

/-- The frame is a FAULT. -/
def UrgentFrame.isFault : UrgentFrame → Bool
  | .fault _ => true
  | .slipAlert _ => false

/-- The first SLIP ALERT of a list replaced in its place. -/
def replaceFirstAlert (a : SlipAlert) : List UrgentFrame → List UrgentFrame
  | [] => []
  | .slipAlert _ :: fs => .slipAlert a :: fs
  | .fault c :: fs => .fault c :: replaceFirstAlert a fs

/-- A SLIP ALERT joining the urgent queue: at the tail, or, in a full queue, in the place of the newest SLIP ALERT (R96). -/
def queueAlert (q : List UrgentFrame) (a : SlipAlert) : List UrgentFrame :=
  if q.length < Config.urgentCapacity then q ++ [.slipAlert a] else (replaceFirstAlert a q.reverse).reverse

/-- A FAULT placed in the urgent queue: every SLIP ALERT removed, a FAULT already there replaced in its place, else the new
one at the tail (R97). -/
def queueFault (q : List UrgentFrame) (c : FaultCause) : List UrgentFrame :=
  let faults := q.filter UrgentFrame.isFault
  if faults = [] then [.fault c] else faults.map (fun _ => .fault c)

/-! ## Into the transmit buffer (5.4) -/

/-- The frame that moves next, with the collections it leaves behind: the head of the urgent queue, else the STATUS of the
routine slot (R98). -/
def Scheduler.take (f : Scheduler) : Option (OwnFrame × Scheduler) :=
  match f.urgent, f.routine with
  | u :: us, _ => some (.urgent u, { f with urgent := us })
  | [], some r => some (.status r, { f with routine := none })
  | [], none => none

/-- The Share Link Controller can take a frame: line FREE, transmit buffer empty, reset drive NONE (R98). -/
def LinkController.canTake (c : LinkController) : Bool := c.line == .free && c.transmit == none && c.resetDrive == .none

/-- The move into the transmit buffer where its conditions hold (R98, R75): the frame contends. -/
def State.move (s : State) : State :=
  if s.slc.canTake && s.ssv.mode != .unconfigured then
    match s.fsc.take with
    | some (f, rest) =>
      { s with fsc := rest, slc := { s.slc with transmit := some ⟨f, none, none, 0⟩, claim := .contending } }
    | none => s
  else s

/-! ## Class A conditions (8.4) -/

/-- SAFE entry at the Station Supervisor (R149): cause recorded, measure-lost mark cleared, clash bar set by a CLASH. -/
def Supervisor.enterSafe (v : Supervisor) (cause : FaultCause) : Supervisor :=
  { v with
    mode := .safe
    faultCause := some cause
    measureLost := false
    clashBar := v.clashBar || decide (cause = FaultCause.clash) }

/-- The blocks that leave SHARING with the mode: held command to 0 (R40), Slip Monitor OFF (R120). -/
def State.leaveSharing (s : State) : State :=
  if s.ssv.mode = .sharing then { s with cms := s.cms.zeroed, slm := s.slm.goOff } else s

/-- SAFE entry but its notice and its move: supervisor, Command Stage, Slip Monitor, FAULT queued and the waiting STATUS
replaced (R149). -/
def State.goSafe (s : State) (cause : FaultCause) : State :=
  let t : State :=
    { s.leaveSharing with
      ssv := s.ssv.enterSafe cause
      fsc := { s.fsc with urgent := queueFault s.fsc.urgent cause } }
  t.replaceRoutine

/-- SAFE entry (R149). -/
def State.enterSafe (s : State) (cause : FaultCause) : State :=
  ((s.goSafe cause).notify .faultEntered none (some cause.code)).move

/-- A class A condition arriving in SAFE (R150). -/
def State.classAInSafe (s : State) (cause : FaultCause) : State :=
  { s with ssv := { s.ssv with clashBar := s.ssv.clashBar || decide (cause = FaultCause.clash) } }.notify .faultEntered none
    (some cause.code)

/-- A class A condition (R148): none arises in UNCONFIGURED. -/
def State.classA (s : State) (cause : FaultCause) : State :=
  match s.ssv.mode with
  | .unconfigured => s
  | .announcing => s.enterSafe cause
  | .sharing => s.enterSafe cause
  | .safe => s.classAInSafe cause

/-! ## Entry into SHARING (8.3) -/

/-- The join complete: SHARING, the Slip Monitor out of OFF, a waiting STATUS replaced (R147, R119, R95). -/
def State.enterSharing (s : State) : State :=
  { s with
    ssv := { s.ssv with mode := .sharing }
    slm := s.slm.enter s.config s.spe.inForce.sense }.replaceRoutine

/-! ## Computations (1.2) -/

/-- The snapshot of a computation that consumes this MEASURE now (R4). -/
def State.takeSnapshot (s : State) (m : Measure) : Snapshot where
  measure := m
  demandState := s.ptb.demand.state
  demand := s.ptb.demand.demand
  direction := s.ptb.demand.direction
  gripMode := s.ptb.demand.gripMode
  lastSeq := s.ptb.demand.lastSeq
  peers := s.ptb.copies s.ssv.ownNumber
  grip := s.slm.grip
  accel := s.slm.accel
  mode := s.ssv.mode

/-- The start of a computation (R2, R3). -/
def State.startComputation (s : State) (m : Measure) : State :=
  { s with spe := { s.spe with state := .busy, voidMark := false, snapshot := some (s.takeSnapshot m) } }

/-- The static axle load of the most recently consumed MEASURE, 0 from an empty snapshot (R1, R14). -/
def SplitEngine.lastLoad (e : SplitEngine) : Nat :=
  match e.snapshot with
  | some sn => sn.measure.load
  | none => 0

/-! ## Receptions (4.5) -/

/-- The station is receiving another sender's frame: line FRAME, a reception in progress, not its own frame (R79, R80). -/
def LinkController.hears (c : LinkController) : Bool :=
  c.line == .frame && c.reception == .receiving && c.claim != .sending

/-- A byte taken in from the line: while a frame is in reception, up to its expected length (R79). An own frame being sent is
taken in as well, so that its reception can go on behind an abort (R82). -/
def LinkController.receiveByte (c : LinkController) (b : Byte) : LinkController :=
  if c.reception = .receiving ∧ c.received.length < expectedLength c.received then { c with received := c.received ++ [b] }
  else c

/-- The end of a reception: the receive buffer is emptied (R79). -/
def LinkController.endReception (c : LinkController) (atLength : Bool) : LinkController :=
  { c with received := [], reception := .ended atLength, ownAbort := false }

/-- A receive error counted, unless the reception went on behind an own aborted frame (R79, R82). -/
def LinkController.countError (c : LinkController) : LinkController :=
  { c with crcErrors := if c.ownAbort then c.crcErrors else countUp c.crcErrors }

/-- The end of the reception of a good frame (R79, R80). -/
def State.endReception (s : State) : State := { s with slc := s.slc.endReception true }

/-- A misplaced frame counted (R45, R80). -/
def State.countMisplaced (s : State) : State :=
  { s with slc := { s.slc with misplaced := countUp s.slc.misplaced } }

/-- A peer entry replaced. -/
def State.withEntry (s : State) (n : StationNumber) (e : PeerEntry) : State := { s with ptb := s.ptb.withEntry n e }

/-- The transmit buffer emptied and the claim given up (R84 to R87). -/
def LinkController.discardOwn (c : LinkController) : LinkController := { c with transmit := none, claim := .none }

end Sys2Proof.Machine
end

