-- ==== Sys2Proof/Machine/Completion.lean ====
section
/-! DEFINITION. The meaning of COMPUTATION_COMPLETION (R23): the Split Engine stores its results, the Command Stage takes them,
and a MEASURE waiting in the holding slot starts the next computation (R3). -/

namespace Sys2Proof.Machine

/-- The result of the computation in flight, evaluated now (R5). -/
def State.result (s : State) (sn : Snapshot) : Result :=
  compute s.config s.ssv.ownNumber sn s.spe.inForce s.slm.slipCap

/-- What the completion hands the Command Stage, with the mode and the slip cap as they stand now (R23, R25). -/
def State.handOff (s : State) (sn : Snapshot) : HandOff :=
  { share := (s.result sn).ownShare
    caps := (s.result sn).ownCaps
    dEff := (s.result sn).inForce.dEff
    sense := (s.result sn).inForce.sense
    gripMode := (s.result sn).inForce.gripMode
    voltage := sn.measure.voltage
    mode := s.ssv.mode
    slipCap := s.slm.slipCap }

/-- The Split Engine after a completion: results stored, the vector only where the void mark is clear (R23, R7). -/
def SplitEngine.store (e : SplitEngine) (r : Result) : SplitEngine :=
  { e with
    state := .idle
    inForce := r.inForce
    ownWeight := r.ownWeight
    ownCaps := r.ownCaps
    vector := if e.voidMark then none else some r.vector }

/-- The notices and the sticky flag of a sag state change (R28, R29). -/
def State.reportSag (s : State) (before : SagState) (voltage : Nat) : State :=
  match sagNotice before s.cms.sag with
  | some .sagEntered =>
    { s with lpt := { s.lpt with sagSeen := true } }.notify .sagEntered none (some voltage)
  | some k => s.notify k none (some voltage)
  | none => s

/-- A MEASURE waiting in the holding slot taken to start the next computation (R3). -/
def State.chain (s : State) : State :=
  match s.lpt.holding with
  | some m => { s with lpt := { s.lpt with holding := none } }.startComputation m
  | none => s

/-- A completion of the computation with this snapshot (R3, R23, R25). -/
def State.complete (s : State) (sn : Snapshot) : State :=
  let t : State :=
    { s with
      spe := s.spe.store (s.result sn)
      cms := s.cms.complete s.config (s.handOff sn) }
  (t.reportSag s.cms.sag sn.measure.voltage).chain

/-- COMPUTATION_COMPLETION (R23). -/
def execComputationCompletion (s : State) : Host.Outcome State Fault Refusal :=
  match s.spe.state, s.spe.snapshot with
  | .busy, some sn => .next (s.complete sn)
  | .busy, none => .next s
  | .idle, _ => .next s

end Sys2Proof.Machine
end

