-- ==== Sys2Proof/Machine/Timers.lean ====
section
/-! DEFINITION. The meanings of the timers that pace the link, the table, the supervisor and the local port. An expiry acts only
where its timer runs (log 2, log 4). -/

namespace Sys2Proof.Machine

/-- A timer runs. -/
def Timer.isRunning : Timer → Bool
  | .running _ => true
  | .stopped => false

/-- A STATUS assembled into the routine slot, replacing any waiting one (R91, R94), and moved at once where the line is FREE
(R98). -/
def State.publish (s : State) : State :=
  { s with
    fsc := { s.fsc with
      publishTimer := .running s.config.publishPeriod
      routine := s.assemble } }.move

/-- PUBLISH_TIMER_EXPIRY (R91). -/
def execPublishTimerExpiry (s : State) : Host.Outcome State Fault Refusal :=
  if s.fsc.publishTimer.isRunning then .next s.publish else .next s

/-- DEMAND_TIMER_EXPIRY (R47). -/
def execDemandTimerExpiry (s : State) : Host.Outcome State Fault Refusal :=
  if s.ptb.demand.timer.isRunning then
    .next ({ s with ptb := { s.ptb with demand := s.ptb.demand.expire } }.notifyTable 0 s.ptb.demand.expireNotice)
  else .next s

/-- SILENCE_TIMER_EXPIRY (R60). -/
def execSilenceTimerExpiry (peer : StationNumber) (s : State) : Host.Outcome State Fault Refusal :=
  if (s.ptb.entry peer).silenceTimer.isRunning then
    .next ((s.withEntry peer (s.ptb.entry peer).fallSilent).notifyTable peer (s.ptb.entry peer).silenceNotice)
  else .next s

/-- The outcome of a measure timer expiry by mode (R155). -/
def State.measureExpired (s : State) : State :=
  match s.ssv.mode with
  | .unconfigured => s
  | .announcing => s.classA .measureTimeout
  | .sharing => s.classA .measureTimeout
  | .safe =>
    if s.ssv.measureLost then s
    else { s with ssv := { s.ssv with measureLost := true } }.notify .measureLost none none

/-- MEASURE_TIMER_EXPIRY (R154, R155): the timer restarts, then the expiry is taken by the mode. -/
def execMeasureTimerExpiry (s : State) : Host.Outcome State Fault Refusal :=
  if s.ssv.measureTimer.isRunning then
    .next { s with ssv := { s.ssv with measureTimer := .running s.config.measureTimeout } }.measureExpired
  else .next s

/-- INTERIM_TIMER_EXPIRY (R173, R174). -/
def execInterimTimerExpiry (s : State) : Host.Outcome State Fault Refusal :=
  match s.lpt.interim with
  | .running _ => .next { s with lpt := { s.lpt with interim := .expired }.setNtc s.noticeThreshold }
  | .stopped => .next s
  | .expired => .next s

/-- MILLISECOND_TICK: the count wraps from 65535 to 0 (R171). -/
def execMillisecondTick (s : State) : Host.Outcome State Fault Refusal :=
  .next { s with lpt := { s.lpt with msCount := s.lpt.msCount + 1 } }

end Sys2Proof.Machine
end

