-- ==== Sys2Proof/Machine/Edges.lean ====
section
/-! DEFINITION. The meanings of the tooth-wheel events (chapter 6). -/

namespace Sys2Proof.Machine

/-- An edge at an enabled channel: the channel reads the timebase, and that reading is the edge time (R107). -/
def State.wheelEdge (s : State) (ch : Channel) (time : TimeStamp) : State :=
  { s with timebase := time, wcu := s.wcu.edge s.config ch time }

/-- TOOTH_EDGE (R105, R107): an edge on a disabled channel changes nothing. -/
def execToothEdge (ch : Channel) (time : TimeStamp) (s : State) : Host.Outcome State Fault Refusal :=
  if (s.wcu.channel ch).enabled then .next (s.wheelEdge ch time) else .next s

/-- STOP_TIMER_EXPIRY (R112, R113). -/
def execStopTimerExpiry (ch : Channel) (s : State) : Host.Outcome State Fault Refusal :=
  if (s.wcu.channel ch).stopTimer.isRunning then
    .next { s with wcu := s.wcu.setSpeed ch (s.wcu.channel ch).stop }
  else .next s

end Sys2Proof.Machine
end

