-- ==== Sys2Proof/Machine/Frames.lean ====
section
/-! DEFINITION. The meanings of the four good frames received (R80, chapter 3). A frame is heard only while this station receives
it (R79); one delivered in UNCONFIGURED is discarded (R44); one bearing the own number is a clash (R81); a misplaced one is
counted and dropped (R45). -/

namespace Sys2Proof.Machine

/-! ## DEMAND_FRAME (R46) -/

/-- A DEMAND that passed screening: accepted unless its sequence number is the last one (R46). -/
def State.applyDemand (s : State) (seq : Seq) (c : DemandContent) : State :=
  if s.ptb.demand.lastSeq = some seq then s
  else
    { s with ptb := { s.ptb with demand := .accept c seq s.config.demandTimeout } }.notifyTable 0
      (s.ptb.demand.acceptNotice seq)

/-- A good DEMAND delivered to the Peer Table (R44 to R46). -/
def State.deliverDemand (s : State) (h : FrameHeader) (p : DemandPayload) : State :=
  if s.ssv.mode = .unconfigured then s
  else
    match screenDemand h p with
    | none => s.countMisplaced
    | some c => s.applyDemand h.seq c

/-- DEMAND_FRAME (R46, R80). -/
def execDemandFrame (h : FrameHeader) (p : DemandPayload) (s : State) : Host.Outcome State Fault Refusal :=
  if s.slc.hears then .next (s.endReception.deliverDemand h p) else .next s

/-! ## Frames of a motor station -/

/-- A STATUS applied to the entry of its sender, its discord check, and the notices of both (R51 to R57, R61, R62). -/
def State.applyStatus (s : State) (n : StationNumber) (seq : Seq) (c : StatusContent) : State :=
  let before := s.ptb.entry n
  let moved := before.applyStatus seq c s.config.silenceTimeout
  let difference := discordDifference before moved s.spe.vector n c
  ((s.withEntry n (moved.checkDiscord difference s.config.discordBand)).notifyTable n
    (statusNotice before.state moved.state)).notifyTable n (discordNotice moved difference s.config.discordBand)

/-- A good STATUS: discarded in UNCONFIGURED, a clash with the own number, misplaced, or applied (R44, R45, R80, R81). -/
def State.deliverStatus (s : State) (h : FrameHeader) (p : StatusPayload) : State :=
  if s.ssv.mode = .unconfigured then s
  else if sentBy h s.ssv.ownNumber then s.classA .clash
  else
    match motorSender h, readStatus p with
    | some n, some c => s.applyStatus n h.seq c
    | _, _ => s.countMisplaced

/-- STATUS_FRAME (R52, R80). -/
def execStatusFrame (h : FrameHeader) (p : StatusPayload) (s : State) : Host.Outcome State Fault Refusal :=
  if s.slc.hears then .next (s.endReception.deliverStatus h p) else .next s

/-- A SLIP ALERT applied to the entry of its sender (R51, R59). -/
def State.applySlipAlert (s : State) (n : StationNumber) (seq : Seq) (a : SlipAlert) : State :=
  s.withEntry n ((s.ptb.entry n).applySlipAlert seq a s.config.silenceTimeout)

/-- A good SLIP ALERT: discarded in UNCONFIGURED, a clash with the own number, misplaced, or applied (R44, R45, R80, R81). -/
def State.deliverSlipAlert (s : State) (h : FrameHeader) (p : SlipAlertPayload) : State :=
  if s.ssv.mode = .unconfigured then s
  else if sentBy h s.ssv.ownNumber then s.classA .clash
  else
    match motorSender h, readSlipAlert p with
    | some n, some a => s.applySlipAlert n h.seq a
    | _, _ => s.countMisplaced

/-- SLIP_ALERT_FRAME (R59, R80). -/
def execSlipAlertFrame (h : FrameHeader) (p : SlipAlertPayload) (s : State) : Host.Outcome State Fault Refusal :=
  if s.slc.hears then .next (s.endReception.deliverSlipAlert h p) else .next s

/-- A FAULT applied to the entry of its sender, with its notice (R51, R58). -/
def State.applyFault (s : State) (n : StationNumber) (seq : Seq) (cause : FaultCause) : State :=
  (s.withEntry n ((s.ptb.entry n).applyFault seq cause s.config.silenceTimeout)).notifyTable n
    ((s.ptb.entry n).faultNotice cause)

/-- A good FAULT: discarded in UNCONFIGURED, a clash with the own number, misplaced, or applied (R44, R45, R80, R81). -/
def State.deliverFault (s : State) (h : FrameHeader) (p : FaultPayload) : State :=
  if s.ssv.mode = .unconfigured then s
  else if sentBy h s.ssv.ownNumber then s.classA .clash
  else
    match motorSender h, FaultCause.ofCode p.cause.toNat with
    | some n, some cause => s.applyFault n h.seq cause
    | _, _ => s.countMisplaced

/-- FAULT_FRAME (R58, R80). -/
def execFaultFrame (h : FrameHeader) (p : FaultPayload) (s : State) : Host.Outcome State Fault Refusal :=
  if s.slc.hears then .next (s.endReception.deliverFault h p) else .next s

end Sys2Proof.Machine
end

