-- ==== Sys2Proof/Machine/Link.lean ====
section
/-! DEFINITION. The meanings of the share link's own events (chapter 4): claim windows, receptions, the echo check and the link
reset. An event that cannot occur in the state it meets leaves the state as it is (log 2). -/

namespace Sys2Proof.Machine

/-! ## The claim window (4.4) -/

/-- WINDOW_START: a dominant leading edge in FREE (R71). -/
def execWindowStart (s : State) : Host.Outcome State Fault Refusal :=
  if s.slc.line = .free then .next { s with slc := { s.slc with line := .window } } else .next s

/-- The sequence number and the CRC of a frame taking its first claim (R77, R177). -/
def TransmitFrame.number (t : TransmitFrame) (own : StationNumber) (seq : Seq) : TransmitFrame :=
  { t with seq := some seq, crc := some (t.frame.crc own seq) }

/-- A claim won with this frame: on a first claim it takes the own sequence number, which advances; on a retry it keeps its
number and its CRC (R77, R101). -/
def State.winClaim (s : State) (t : TransmitFrame) : State :=
  match t.seq with
  | some _ => { s with slc := { s.slc with claim := .sending } }
  | none =>
    { s with
      slc := { s.slc with claim := .sending, transmit := some (t.number s.ssv.ownNumber s.fsc.ownSeq) }
      fsc := { s.fsc with ownSeq := s.fsc.ownSeq + 1 } }

/-- CLAIM_WON: a contender's own slot comes with no pulse before it (R76, R77). -/
def execClaimWon (s : State) : Host.Outcome State Fault Refusal :=
  match s.slc.transmit with
  | some t => if s.slc.line = .window ∧ s.slc.claim = .contending then .next (s.winClaim t) else .next s
  | none => .next s

/-- CLAIM_LOST: a contender sees a pulse in a slot before its own (R76). -/
def execClaimLost (slot : Fin 16) (s : State) : Host.Outcome State Fault Refusal :=
  match s.slc.transmit with
  | some t =>
    if s.slc.line = .window ∧ s.slc.claim = .contending ∧ slot.val < claimSlot s.ssv.ownNumber t.frame then
      .next { s with slc := { s.slc with claim := .waiting, lostClaims := countUp s.slc.lostClaims } }
    else .next s
  | none => .next s

/-- FRAME_START: the first dominant edge after the slot holding the pulse (R72, R79). A contender has won or lost by then. -/
def execFrameStart (s : State) : Host.Outcome State Fault Refusal :=
  if s.slc.line = .window ∧ s.slc.claim ≠ .contending then
    .next { s with slc := { s.slc with line := .frame, received := [], reception := .receiving } }
  else .next s

/-! ## The return to FREE (4.3) -/

/-- 5 µs of recessive can end a wait: the line is BUSY_UNKNOWN, WINDOW or FRAME, and this station drives nothing. -/
def LinkController.canFree (c : LinkController) : Bool :=
  (c.line == .busyUnknown || c.line == .window || c.line == .frame) && c.resetDrive != .driving && c.claim != .sending

/-- The line FREE: a reception still short of its length ends in a receive error at this moment (R79), a frame WAITING
contends (R75). -/
def LinkController.becomeFree (c : LinkController) : LinkController :=
  let d := if c.line = .frame ∧ c.reception = .receiving then c.countError else c
  { d with
    line := .free
    received := []
    reception := .idle
    ownAbort := false
    claim := if d.claim = .waiting ∧ d.transmit.isSome then .contending else d.claim }

/-- BUS_FREE_TIME (R70, R72, R73, R75, R98). -/
def execBusFreeTime (s : State) : Host.Outcome State Fault Refusal :=
  if s.slc.canFree then .next { s with slc := s.slc.becomeFree }.move else .next s

/-! ## Receive errors (R79) -/

/-- The expected length is in at a receive error: only at a CRC mismatch (R79, R86). -/
def errorAtLength : ReceiveErrorCause → Bool
  | .crcMismatch => true
  | .unknownKind => false
  | .shortFrame => false
  | .dominantStop => false

/-- RECEIVE_ERROR (R79, R82). -/
def execReceiveError (cause : ReceiveErrorCause) (s : State) : Host.Outcome State Fault Refusal :=
  if s.slc.hears then .next { s with slc := s.slc.countError.endReception (errorAtLength cause) } else .next s

/-! ## Own frames (4.6) -/

/-- The own join count after a frame sent in full (R102): it moves in ANNOUNCING only. A STATUS of health SHARING has no row
in R102 and keeps it (log 10). -/
def joinCountAfter (mode : StationMode) (count : Nat) (f : OwnFrame) : Nat :=
  if mode = .announcing then
    match f with
    | .status ⟨.joining, _⟩ => count + 1
    | .status ⟨.sharing, _⟩ => count
    | .status ⟨.withdrawn, _⟩ => 0
    | .urgent (.slipAlert _) => count
    | .urgent (.fault _) => 0
  else count

/-- The Share Link Controller after an own frame sent in full (R85). -/
def LinkController.sent (c : LinkController) : LinkController :=
  { c.discardOwn.endReception true with echoRun := 0 }

/-- The report of a frame sent in full to the Station Supervisor (R102, R147). -/
def State.reportSent (s : State) (f : OwnFrame) : State :=
  let count := joinCountAfter s.ssv.mode s.ssv.joinCount f
  let t : State := { s with ssv := { s.ssv with joinCount := count } }
  if s.ssv.mode = .announcing ∧ Config.joinFrames ≤ count then t.enterSharing else t

/-- FRAME_SENT (R85, R102, R147). -/
def execFrameSent (s : State) : Host.Outcome State Fault Refusal :=
  match s.slc.transmit with
  | some t =>
    if s.slc.line = .frame ∧ s.slc.claim = .sending then
      .next ({ s with slc := s.slc.sent }.reportSent t.frame).move
    else .next s
  | none => .next s

/-- The first echo failure of a frame: it waits for its retry (R82, R83). -/
def LinkController.abortOwn (c : LinkController) (t : TransmitFrame) : LinkController :=
  { c with transmit := some { t with echoFailures := 1 }, claim := .waiting, ownAbort := true }

/-- The second echo failure of a frame at the Share Link Controller: dropped and counted (R84). -/
def LinkController.dropOwn (c : LinkController) : LinkController :=
  { c.discardOwn with ownAbort := true, framesDropped := countUp c.framesDropped, echoRun := countUp c.echoRun }

/-- The second echo failure of a frame: the drop, its notice, the own join count, and LINK_MUTE where the run reaches 8 by
it (R84, R147). -/
def State.dropFrame (s : State) (t : TransmitFrame) : State :=
  let d := { s with
    slc := s.slc.dropOwn
    ssv := { s.ssv with joinCount := 0 } }.notify .echoFail (some s.ssv.ownNumber) (t.seq.map BitVec.toNat)
  (if s.slc.echoRun + 1 = Config.muteRun then d.classA .linkMute else d).move

/-- ECHO_CHECK_FAILED (R82 to R84). -/
def execEchoCheckFailed (s : State) : Host.Outcome State Fault Refusal :=
  match s.slc.transmit with
  | some t =>
    if s.slc.claim = .sending then
      if t.echoFailures = 0 then .next { s with slc := s.slc.abortOwn t } else .next (s.dropFrame t)
    else .next s
  | none => .next s

/-! ## Link reset (4.7) -/

/-- RESET_DRIVE_BEGIN: a PENDING drive begins at the end of the frame on the line, at its expected length, or when the line is
FREE (R86). -/
def execResetDriveBegin (s : State) : Host.Outcome State Fault Refusal :=
  if s.slc.resetDrive = .pending ∧ (s.slc.line = .free ∨ (s.slc.line = .frame ∧ s.slc.reception = .ended true)) then
    .next { s with slc := { s.slc with resetDrive := .driving } }
  else .next s

/-- The Share Link Controller at the entry into RESETTING (R87): own frame and reception discarded without count, a PENDING
drive cancelled, counters kept. -/
def LinkController.enterResetting (c : LinkController) : LinkController :=
  { c.discardOwn with
    line := .resetting
    received := []
    reception := .idle
    ownAbort := false
    resetDrive := if c.resetDrive = .pending then .none else c.resetDrive }

/-- The Station Supervisor at a link reset seen (R156). -/
def Supervisor.linkReset (v : Supervisor) : Supervisor :=
  match v.mode with
  | .unconfigured => v
  | .announcing => { v with joinCount := 0 }
  | .sharing => { v with mode := .announcing, joinCount := 0 }
  | .safe => { v with clashBar := false }

/-- The Split Engine at a link reset seen (R7). DEDUCED (log 24): seen while IDLE, with the mark of a voided computation that
has completed still set, it leaves the mark set; R7 lets only the next start clear it, and only a completion reads it. -/
def SplitEngine.linkReset (e : SplitEngine) : SplitEngine :=
  { e with vector := none, voidMark := e.voidMark || decide (e.state = .busy) }

/-- The Slip Monitor at a link reset seen: OFF when the mode leaves SHARING (R120). -/
def Monitor.linkReset (m : Monitor) (mode : StationMode) : Monitor := if mode = .sharing then m.goOff else m

/-- A link reset seen, at every block (R87, R156, R103, R67, R120, R7, R41). -/
def State.linkReset (s : State) : State :=
  { s with
    slc := s.slc.enterResetting
    ssv := s.ssv.linkReset
    fsc := { s.fsc with urgent := [], routine := none }
    ptb := s.ptb.linkReset
    slm := s.slm.linkReset s.ssv.mode
    spe := s.spe.linkReset
    cms := s.cms.zeroed }.notify .linkResetSeen none none

/-- LINK_RESET_SEEN: dominant held for 200 µs; seen once at each entry into RESETTING (R74, R87). -/
def execLinkResetSeen (s : State) : Host.Outcome State Fault Refusal :=
  if s.slc.line = .resetting then .next s else .next s.linkReset

/-- RESET_DRIVE_RELEASE (R88). -/
def execResetDriveRelease (s : State) : Host.Outcome State Fault Refusal :=
  if s.slc.resetDrive = .driving then .next { s with slc := { s.slc with resetDrive := .none } }.move else .next s

/-- RESETTING_RELEASED: the line turns recessive, which it cannot while this station drives it (R74, R88). -/
def execResettingReleased (s : State) : Host.Outcome State Fault Refusal :=
  if s.slc.line = .resetting ∧ s.slc.resetDrive ≠ .driving then
    .next { s with slc := { s.slc with line := .busyUnknown } }
  else .next s

end Sys2Proof.Machine
end

