-- ==== Sys2Proof/Machine/Records.lean ====
section
/-! DEFINITION. The meanings of the commands of the local port (chapter 9) and of the part reset (8.2). A command that ends an
exchange acts only where an exchange is in progress, and EXCHANGE_START only where none is (R158, R159, R160; log 2). -/

namespace Sys2Proof.Machine

/-! ## PART_RESET (R143) -/

/-- The own station number from the straps, weighted 1, 2 and 4 (R43). -/
def strapNumber (stn0 stn1 stn2 : Bool) : StationNumber := Fin.ofNat 8 (stn0.toNat + 2 * stn1.toNat + 4 * stn2.toNat)

/-- PART_RESET (R143, R144, and each block's rule: R1, R26, R66, R68, R90, R106, R118, R158). The commands still waiting and
the free-running timebase are kept (log 1, log 5). -/
def execPartReset (powerOn stn0 stn1 stn2 : Bool) (s : State) : Host.Outcome State Fault Refusal :=
  .next (State.afterReset s.pending s.timebase (if powerOn then .power else .pin) (strapNumber stn0 stn1 stn2))

/-! ## EXCHANGE_START (R159) -/

/-- The contents of a STATE record assembled now (R169). -/
def State.stateView (s : State) : StateView where
  ownNumber := s.ssv.ownNumber
  mode := s.ssv.mode
  faultCause := s.ssv.faultCause
  resetCause := s.ssv.resetCause
  clashBar := s.ssv.clashBar
  resultSeq := s.cms.resultSeq
  held := s.cms.held
  motor := s.cms.motor
  rateLimited := s.cms.rateLimited
  sagNow := s.cms.sagNow
  effectiveCap := s.cms.effectiveCap s.slm.slipCap s.config.sagCap
  dEff := s.spe.inForce.dEff
  sense := s.spe.inForce.sense
  participants := (s.spe.vector.map (fun v => v.entries.length)).getD 0
  shortfall := (s.spe.vector.map (fun v => v.shortfall)).getD 0
  demandState := s.ptb.demand.state
  monitorState := s.slm.state
  grip := s.slm.grip
  rejectedA := s.wcu.chA.rejected
  rejectedB := s.wcu.chB.rejected
  noticeCount := s.lpt.notices.length
  noticesLost := s.lpt.noticesLost
  overruns := s.lpt.overruns
  sagSeen := s.lpt.sagSeen
  clamped := s.lpt.clamped
  overrunSeen := s.lpt.overrunSeen

/-- A record sent at the start of an exchange, of which no byte has been received yet (R159). -/
def LocalPort.send (l : LocalPort) (r : OutRecord) : LocalPort :=
  { l with inExchange := true, received := [], outgoing := some r }

/-- The send of a STATE record, with the clears that go with it (R169, R170, R114). -/
def State.sendState (s : State) : State :=
  { s with
    wcu := s.wcu.clearRejected
    lpt :=
      { s.lpt.send (.state s.stateView) with
        sagSeen := false, clamped := false, overrunSeen := false, noticesLost := 0, overruns := 0 } }

/-- The send of a NOTICE: the oldest notice removed and carried, or kind NONE from an empty queue (R165, R172, R174). -/
def State.sendNotice (s : State) : State :=
  match s.lpt.notices with
  | [] => { s with lpt := s.lpt.send (.notice none 0) }
  | n :: rest => { s with lpt := (s.lpt.takeOldest.setNtc s.noticeThreshold).send (.notice (some n) rest.length) }

/-- The contents of a PEER_VIEW of the SELF entry (R50). -/
def State.selfView (s : State) : SelfView where
  number := s.ssv.ownNumber
  mode := s.ssv.mode
  health := healthOf s.ssv.mode
  figures := s.figures
  ownSeq := s.fsc.ownSeq
  joinCount := s.ssv.joinCount
  echoRun := s.slc.echoRun
  crcErrors := s.slc.crcErrors
  lostClaims := s.slc.lostClaims
  framesDropped := s.slc.framesDropped
  misplaced := s.slc.misplaced
  slipEvents := s.slm.slipEvents

/-- The four link counters cleared (R50, R89). -/
def LinkController.clearCounters (c : LinkController) : LinkController :=
  { c with crcErrors := 0, lostClaims := 0, framesDropped := 0, misplaced := 0 }

/-- The send of a PEER_VIEW: the demand record for 0 (R48), the SELF entry for the own number with its clears (R50), else a
peer entry with its gap counter cleared (R65, R166). -/
def State.sendPeerView (s : State) (n : StationNumber) : State :=
  if n = 0 then { s with lpt := s.lpt.send (.demandView s.ptb.demand) }
  else if n = s.ssv.ownNumber then
    { s with
      slc := s.slc.clearCounters
      slm := { s.slm with slipEvents := 0 }
      lpt := s.lpt.send (.selfView s.selfView) }
  else
    { s with
      ptb := s.ptb.withEntry n { s.ptb.entry n with gaps := 0 }
      lpt := s.lpt.send (.peerView n (s.ptb.entry n)) }

/-- The send of a reply taken from the reply slot, which becomes empty (R159, R161). -/
def State.sendReply (s : State) (r : Reply) : State :=
  let t : State := { s with lpt := { s.lpt with reply := none } }
  match r with
  | .ack k => { t with lpt := t.lpt.send (.ack k) }
  | .refuse k reason i => { t with lpt := t.lpt.send (.refuse k reason i) }
  | .notice => t.sendNotice
  | .peerView n => t.sendPeerView n

/-- EXCHANGE_START (R159). -/
def execExchangeStart (s : State) : Host.Outcome State Fault Refusal :=
  if s.lpt.inExchange then .next s
  else
    match s.lpt.reply with
    | some r => .next (s.sendReply r)
    | none => .next s.sendState

/-! ## Exchanges that end without a record (R160, R168, R178) -/

/-- SHORT_EXCHANGE (R160). -/
def execShortExchange (_wholeBytes : Fin 48) (s : State) : Host.Outcome State Fault Refusal :=
  if s.lpt.inExchange then .next (s.endExchange.place (.refuse none .length none)) else .next s

/-- CHECK_BYTE_FAIL (R160, R178). -/
def execCheckByteFail (s : State) : Host.Outcome State Fault Refusal :=
  if s.lpt.inExchange then .next (s.endExchange.place (.refuse none .check none)) else .next s

/-- UNKNOWN_RECORD_KIND (R168). -/
def execUnknownRecordKind (code : Byte) (s : State) : Host.Outcome State Fault Refusal :=
  if s.lpt.inExchange then .next (s.endExchange.place (.refuse (some code) .kind none)) else .next s

/-! ## SETUP (R162) -/

/-- A record of a kind refused with a reason (R161). -/
def State.refuse (s : State) (kind : RecordKind) (reason : Reason) (index : Option Nat) : State :=
  s.place (.refuse (some kind.code) reason index)

/-- The interim timer started at SETUP acceptance, the queue holding at least SETUP_ACCEPTED or having been full (R173). -/
def State.startInterim (s : State) : State :=
  { s with
    lpt := { s.lpt with interim := .running s.config.interimTime }.setNtc s.noticeThreshold }

/-- SETUP acceptance but its notice and its reply: configuration stored, mode ANNOUNCING, measure timer and publish timer
started, channels enabled, Command Stage set again (R162, R146, R90, R106, R26). -/
def State.configure (s : State) (c : Setup) : State :=
  { s with
    config := c
    ssv := { s.ssv with mode := .announcing, measureTimer := .running c.measureTimeout, joinCount := 0 }
    fsc := { s.fsc with publishTimer := .running c.publishPeriod }
    wcu := s.wcu.configured c.channelCount
    cms := .afterReset }

/-- SETUP acceptance (R162, R173, R175). -/
def State.acceptSetup (s : State) (c : Setup) : State :=
  ((s.configure c).notify .setupAccepted (some s.ssv.ownNumber) none).startInterim.place (.ack .setup)

/-- SETUP (R162, R145). -/
def execSetup (r : SetupRecord) (s : State) : Host.Outcome State Fault Refusal :=
  if s.lpt.inExchange then
    if s.ssv.mode ≠ .unconfigured then .next (s.endExchange.refuse .setup .alreadyConfigured none)
    else if s.ssv.ownNumber = 0 then .next (s.endExchange.refuse .setup .strap none)
    else
      match firstOutOfRange r with
      | some i => .next (s.endExchange.refuse .setup .range (some i))
      | none => .next (s.endExchange.acceptSetup (storedSetup r))
  else .next s

/-! ## MEASURE (R163) -/

/-- A clamped MEASURE seen: the CLAMPED flag set and one notice queued (R163). -/
def State.noteClamp (s : State) (r : MeasureRecord) : State :=
  if measureOutOfRange r then
    { s with lpt := { s.lpt with clamped := true } }.notify .clamped none (some r.seq.toNat)
  else s

/-- A MEASURE arriving while BUSY: held, or in the place of a held one as an overrun (R164). -/
def State.holdMeasure (s : State) (m : Measure) : State :=
  match s.lpt.holding with
  | none => { s with lpt := { s.lpt with holding := some m } }
  | some old =>
    { s with
      lpt := { s.lpt with holding := some m, overruns := countUp s.lpt.overruns, overrunSeen := true } }.notify
        .measureOverrun none (some old.seq.toNat)

/-- An accepted MEASURE: clamped, the measure timer restarted, then to the Split Engine (R163, R154, R164). -/
def State.acceptMeasure (s : State) (r : MeasureRecord) : State :=
  let t := s.noteClamp r
  let t : State := { t with ssv := { t.ssv with measureTimer := .running t.config.measureTimeout } }
  match t.spe.state with
  | .idle => t.startComputation (clampMeasure r)
  | .busy => t.holdMeasure (clampMeasure r)

/-- MEASURE (R163). -/
def execMeasure (r : MeasureRecord) (s : State) : Host.Outcome State Fault Refusal :=
  if s.lpt.inExchange then
    if s.ssv.mode = .unconfigured then .next (s.endExchange.refuse .measure .notConfigured none)
    else .next (s.endExchange.acceptMeasure r)
  else .next s

/-! ## Requests (R165 to R168) -/

/-- TAKE_NOTICE (R165). -/
def execTakeNotice (s : State) : Host.Outcome State Fault Refusal :=
  if s.lpt.inExchange then .next (s.endExchange.place .notice) else .next s

/-- READ_PEER (R166). -/
def execReadPeer (station : Byte) (s : State) : Host.Outcome State Fault Refusal :=
  if s.lpt.inExchange then
    if h : station.toNat < 8 then .next (s.endExchange.place (.peerView ⟨station.toNat, h⟩))
    else .next (s.endExchange.refuse .readPeer .range none)
  else .next s

/-- SAFE_REQUEST (R167, R148). -/
def execSafeRequest (s : State) : Host.Outcome State Fault Refusal :=
  if s.lpt.inExchange then
    if s.ssv.mode = .unconfigured then .next (s.endExchange.refuse .safeRequest .notConfigured none)
    else .next ((s.endExchange.classA .localRequest).place (.ack .safeRequest))
  else .next s

/-- RESUME accepted (R152): the station back in ANNOUNCING, a waiting STATUS replaced by one of health JOINING. -/
def State.resumeJoin (s : State) : State :=
  { s with
    ssv := { s.ssv with
      mode := .announcing, faultCause := none, joinCount := 0, measureTimer := .running s.config.measureTimeout }
    slc := { s.slc with echoRun := 0 } }.replaceRoutine.move

/-- RESUME (R152). -/
def execResume (s : State) : Host.Outcome State Fault Refusal :=
  if s.lpt.inExchange then
    if s.ssv.mode ≠ .safe then .next (s.endExchange.refuse .resume .state none)
    else if s.ssv.clashBar then .next (s.endExchange.refuse .resume .clash none)
    else .next (s.endExchange.resumeJoin.place (.ack .resume))
  else .next s

/-- The Share Link Controller taking a LINK_RESET_REQUEST: the own frame discarded, the drive begun at once in FREE and
WINDOW, else pending. The remainder of an own frame cut short is not counted as a receive error (R86, R82; log 13). -/
def LinkController.requestReset (c : LinkController) : LinkController :=
  { c.discardOwn with
    ownAbort := c.ownAbort || decide (c.claim = .sending)
    resetDrive := if c.line = .free ∨ c.line = .window then .driving else .pending }

/-- LINK_RESET_REQUEST (R86, R167). -/
def execLinkResetRequest (s : State) : Host.Outcome State Fault Refusal :=
  if s.lpt.inExchange then
    if s.ssv.mode = .unconfigured then .next (s.endExchange.refuse .linkResetRequest .state none)
    else if s.slc.line = .resetting ∨ s.slc.resetDrive ≠ .none then
      .next (s.endExchange.refuse .linkResetRequest .busy none)
    else .next ({ s.endExchange with slc := s.slc.requestReset }.place (.ack .linkResetRequest))
  else .next s

/-- NOP (R168). -/
def execNop (s : State) : Host.Outcome State Fault Refusal :=
  if s.lpt.inExchange then .next s.endExchange else .next s

end Sys2Proof.Machine
end

