-- ==== Sys2Proof/Machine/Sampling.lean ====
section
/-! DEFINITION. The meanings of the Slip Monitor's timers (chapter 7): the sample with its slip event, the settling, and the two
recoveries. -/

namespace Sys2Proof.Machine

/-! ## SLIP_SAMPLE (R122) -/

/-- The peer entries a sample reads (R124). -/
def State.peerEntries (s : State) : List PeerEntry := (peerNumbers s.ssv.ownNumber).map s.ptb.entry

/-- The reference speed of a sample (R125). -/
def State.reference (s : State) : Option Nat := referenceSpeed s.spe.inForce.sense s.peerEntries

/-- The first half of a sample: the sample timer restarted (R122), the sense (R123) and the filtered acceleration (R126). -/
def State.senseAndFilter (s : State) : Monitor :=
  (({ s.slm with sampleTimer := .running s.config.slipSampleInterval }).takeSense s.spe.inForce.sense
    s.config.settleTime).filter s.reference s.config.slipSampleInterval

/-- The weight the Split Engine supplies at a slip event, from the monitor as the event left it (R14). -/
def State.alertWeight (s : State) (m : Monitor) : Nat :=
  ownWeightOf s.config.loadTransfer m.accel s.spe.inForce.direction s.spe.lastLoad m.grip

/-- The SLIP ALERT of a slip event (R135). -/
def State.slipAlert (s : State) (m : Monitor) (slip : Nat) : SlipAlert :=
  { sense := s.spe.inForce.sense
    newCap := alertCap s.config (s.cms.caps.ofSense s.spe.inForce.sense) s.cms.held s.spe.inForce.sense
    newWeight := s.alertWeight m
    slip := slip }

/-- The Command Stage at a slip event: a slip cap set with withdraw on slip ON (R134, R38). -/
def State.commandAfterSlip (s : State) : CommandStage :=
  if s.config.withdrawOnSlip then
    s.cms.slipCapSet s.config (newSlipCap s.config.recoveryStep s.cms.held s.spe.inForce.sense)
  else s.cms

/-- A slip event of a sample that left the monitor at `m`, with this slip (R133 to R136). -/
def State.slipEvent (s : State) (m : Monitor) (slip : Nat) : State :=
  let after := m.slipEvent s.config s.spe.inForce.sense s.cms.held
  ({ s with
      slm := after
      cms := s.commandAfterSlip
      fsc := { s.fsc with urgent := queueAlert s.fsc.urgent (s.slipAlert after slip) } }.notify .slipEvent none
    (some slip)).move

/-- A judged sample: the slip compared with the baseline, the count moved, and a slip event where the count reaches the confirm
number (R131, R132). -/
def State.judge (s : State) (m : Monitor) (slip : Nat) : State :=
  if exceeds slip m.baseline (slipLimit s.config.slipThreshold s.spe.inForce.gripMode) then
    if s.config.confirmNumber ≤ m.confirmCount + 1 then s.slipEvent m.countSlip slip
    else { s with slm := m.countSlip }
  else { s with slm := m.quietSlip slip }

/-- A sample (R122 to R132). -/
def State.sample (s : State) : State :=
  let m := s.senseAndFilter
  match s.reference with
  | none => { s with slm := m.block }
  | some v =>
    if m.blocked s.config s.spe.inForce.sense (some v) s.cms.rateLimited then { s with slm := m.block }
    else s.judge m (slipOf s.spe.inForce.sense s.wcu.axleSpeed v)

/-- SLIP_SAMPLE: every expiry of the running sample timer in a state other than OFF (R122). The timer restarts at once. -/
def execSlipSample (s : State) : Host.Outcome State Fault Refusal :=
  if s.slm.sampleTimer.isRunning && s.slm.state != .off then .next s.sample else .next s

/-! ## Settling and recovery -/

/-- SETTLE_TIMER_EXPIRY (R121). -/
def execSettleTimerExpiry (s : State) : Host.Outcome State Fault Refusal :=
  if s.slm.settleTimer.isRunning then .next { s with slm := s.slm.settleExpiry } else .next s

/-- The monitor after an expiry, with R139 and its SLIP_RECOVERED notice where it applies (R137, R138, R139). -/
def State.afterRecovery (s : State) (m : Monitor) : State :=
  let t : State := { s with slm := m.finishRecovery }
  if m.endsRecovery then t.notify .slipRecovered none none else t

/-- GRIP_RECOVERY_EXPIRY (R137, R139). -/
def execGripRecoveryExpiry (s : State) : Host.Outcome State Fault Refusal :=
  if s.slm.gripTimer.isRunning then .next (s.afterRecovery (s.slm.gripStep s.config.recoveryInterval)) else .next s

/-- CAP_RECOVERY_EXPIRY (R138, R139). -/
def execCapRecoveryExpiry (s : State) : Host.Outcome State Fault Refusal :=
  if s.slm.capTimer.isRunning then
    .next (s.afterRecovery (s.slm.capStep s.config.recoveryStep s.config.recoveryInterval s.cms.caps))
  else .next s

end Sys2Proof.Machine
end

