-- ==== Sys2Proof/Machine/Dispatch.lean ====
section
/-! DEFINITION. The effect of each command on everything but the queue: one arm for each row of the opcode table. -/

namespace Sys2Proof.Machine

def exec (i : Instr) (s : State) : Host.Outcome State Fault Refusal :=
  match i with
  | .partReset powerOn stn0 stn1 stn2 => Sys2Proof.Machine.execPartReset powerOn stn0 stn1 stn2 s
  | .exchangeStart => Sys2Proof.Machine.execExchangeStart s
  | .shortExchange wholeBytes => Sys2Proof.Machine.execShortExchange wholeBytes s
  | .checkByteFail => Sys2Proof.Machine.execCheckByteFail s
  | .unknownRecordKind code => Sys2Proof.Machine.execUnknownRecordKind code s
  | .setup r => Sys2Proof.Machine.execSetup r s
  | .measure r => Sys2Proof.Machine.execMeasure r s
  | .takeNotice => Sys2Proof.Machine.execTakeNotice s
  | .readPeer station => Sys2Proof.Machine.execReadPeer station s
  | .safeRequest => Sys2Proof.Machine.execSafeRequest s
  | .resume => Sys2Proof.Machine.execResume s
  | .linkResetRequest => Sys2Proof.Machine.execLinkResetRequest s
  | .nop => Sys2Proof.Machine.execNop s
  | .windowStart => Sys2Proof.Machine.execWindowStart s
  | .claimWon => Sys2Proof.Machine.execClaimWon s
  | .claimLost slot => Sys2Proof.Machine.execClaimLost slot s
  | .frameStart => Sys2Proof.Machine.execFrameStart s
  | .busFreeTime => Sys2Proof.Machine.execBusFreeTime s
  | .demandFrame h p => Sys2Proof.Machine.execDemandFrame h p s
  | .statusFrame h p => Sys2Proof.Machine.execStatusFrame h p s
  | .slipAlertFrame h p => Sys2Proof.Machine.execSlipAlertFrame h p s
  | .faultFrame h p => Sys2Proof.Machine.execFaultFrame h p s
  | .receiveError cause => Sys2Proof.Machine.execReceiveError cause s
  | .frameSent => Sys2Proof.Machine.execFrameSent s
  | .echoCheckFailed => Sys2Proof.Machine.execEchoCheckFailed s
  | .resetDriveBegin => Sys2Proof.Machine.execResetDriveBegin s
  | .linkResetSeen => Sys2Proof.Machine.execLinkResetSeen s
  | .resetDriveRelease => Sys2Proof.Machine.execResetDriveRelease s
  | .resettingReleased => Sys2Proof.Machine.execResettingReleased s
  | .publishTimerExpiry => Sys2Proof.Machine.execPublishTimerExpiry s
  | .demandTimerExpiry => Sys2Proof.Machine.execDemandTimerExpiry s
  | .silenceTimerExpiry peer => Sys2Proof.Machine.execSilenceTimerExpiry peer s
  | .measureTimerExpiry => Sys2Proof.Machine.execMeasureTimerExpiry s
  | .computationCompletion => Sys2Proof.Machine.execComputationCompletion s
  | .toothEdge ch time => Sys2Proof.Machine.execToothEdge ch time s
  | .stopTimerExpiry ch => Sys2Proof.Machine.execStopTimerExpiry ch s
  | .slipSample => Sys2Proof.Machine.execSlipSample s
  | .settleTimerExpiry => Sys2Proof.Machine.execSettleTimerExpiry s
  | .gripRecoveryExpiry => Sys2Proof.Machine.execGripRecoveryExpiry s
  | .capRecoveryExpiry => Sys2Proof.Machine.execCapRecoveryExpiry s
  | .interimTimerExpiry => Sys2Proof.Machine.execInterimTimerExpiry s
  | .millisecondTick => Sys2Proof.Machine.execMillisecondTick s

end Sys2Proof.Machine
end

