-- ==== Sys2Proof/Machine/Wire.lean ====
section
/-! DEFINITION. The two places where bytes enter the part, as bytes or in the bits that carry them. A byte goes into its buffer as it
arrives; the end of an exchange or of a reception is the command that the buffer then spells, put at the front of the queue. The
opcode table has no row for a byte or a bit, so these are no commands (log 8). -/

namespace Sys2Proof.Machine

/-- A command put at the front of the queue. -/
def State.withCommand (s : State) (i : Instr) : State := { s with pending := i :: s.pending }

/-- A whole byte received on PSDI (R160). -/
def State.takeRecordByte (s : State) (b : Byte) : State := { s with lpt := s.lpt.receiveByte b }

/-- The end of an exchange in which these whole bytes were received on PSDI (R160). -/
def State.withRecordBytes (s : State) (bytes : List Byte) : State :=
  let t := bytes.foldl State.takeRecordByte s
  t.withCommand (recordCommand t.lpt.received)

/-- The end of an exchange in which these bits were clocked in on PSDI (R160). -/
def State.withRecordBits (s : State) (bits : List Bool) : State := s.withRecordBytes (wholeBytes bits)

/-- A byte received on the share link (R79). -/
def State.takeFrameByte (s : State) (b : Byte) : State := { s with slc := s.slc.receiveByte b }

/-- The end of a reception in which this was read from the line (R79). -/
def State.withReception (s : State) (read : LineRead) : State :=
  let t := read.bytes.foldl State.takeFrameByte s
  t.withCommand (receptionCommand t.slc.received read.dominantStop)

/-- The end of a reception in which these bytes were on the line (R79). -/
def State.withFrameBytes (s : State) (bytes : List Byte) : State := s.withReception ⟨bytes, false⟩

/-- The end of a reception in which these levels were on the line, one for each bit (R69, R79). -/
def State.withFrameLevels (s : State) (levels : List Level) : State := s.withReception (readLevels levels)

end Sys2Proof.Machine
end

