-- ==== Sys2Proof/Safety.lean ====
section
/-! DEFINITION. What a safe run of a station is: for each block, the relations between its items that no event breaks. Each is
stated so that one step keeps it from every state that has it. -/

namespace Sys2Proof.Machine

/-! ## The configuration (R162) -/

/-- A configuration with every field in its range (R162). -/
structure Setup.InRange (c : Setup) : Prop where
  channelCount : 1 ≤ c.channelCount ∧ c.channelCount ≤ 2
  teeth : 30 ≤ c.teeth ∧ c.teeth ≤ 120
  circumference : 1200 ≤ c.circumference ∧ c.circumference ≤ 3600
  minToothPeriod : 20 ≤ c.minToothPeriod ∧ c.minToothPeriod ≤ 2000
  gearRatio : 64 ≤ c.gearRatio ∧ c.gearRatio ≤ 1600
  publishPeriod : 1 ≤ c.publishPeriod ∧ c.publishPeriod ≤ 20
  silenceTimeout : 3 ≤ c.silenceTimeout ∧ c.silenceTimeout ≤ 200
  demandTimeout : 5 ≤ c.demandTimeout ∧ c.demandTimeout ≤ 200
  measureTimeout : 2 ≤ c.measureTimeout ∧ c.measureTimeout ≤ 50
  rampLimit : 10 ≤ c.rampLimit ∧ c.rampLimit ≤ 4000
  loadTransfer : -100 ≤ c.loadTransfer ∧ c.loadTransfer ≤ 100
  slipSampleInterval : 1 ≤ c.slipSampleInterval ∧ c.slipSampleInterval ≤ 16
  slipThreshold : 20 ≤ c.slipThreshold ∧ c.slipThreshold ≤ 500
  confirmNumber : 1 ≤ c.confirmNumber ∧ c.confirmNumber ≤ 8
  settleTime : c.settleTime ≤ 2000
  launchSpeed : c.launchSpeed ≤ 5000
  recoveryInterval : 50 ≤ c.recoveryInterval ∧ c.recoveryInterval ≤ 1000
  recoveryStep : 10 ≤ c.recoveryStep ∧ c.recoveryStep ≤ 2000
  sagThreshold : 100 ≤ c.sagThreshold ∧ c.sagThreshold ≤ 900
  sagCap : c.sagCap ≤ 8000
  discordBand : 10 ≤ c.discordBand ∧ c.discordBand ≤ 2000
  noticeThreshold : 1 ≤ c.noticeThreshold ∧ c.noticeThreshold ≤ 16
  interimTime : 1 ≤ c.interimTime ∧ c.interimTime ≤ 255

/-- The station is configured: it has left UNCONFIGURED. -/
def State.configured (s : State) : Prop := s.ssv.mode ≠ .unconfigured

/-- A configured station runs on a configuration in range and bears a valid number (R145, R146, R162). -/
def State.ConfigSafe (s : State) : Prop := s.configured → s.config.InRange ∧ s.ssv.ownNumber ≠ 0

/-! ## Station Supervisor (chapter 8) -/

/-- The Station Supervisor's items agree with its mode: a cause exactly in SAFE (R149, R152), the clash bar in SAFE only
(R151, R152, R156), a join short of three in ANNOUNCING (R147), the measure timer running exactly once configured (R154). -/
structure State.SupervisorSafe (s : State) : Prop where
  cause : s.ssv.faultCause.isSome ↔ s.ssv.mode = .safe
  bar : s.ssv.clashBar = true → s.ssv.mode = .safe
  join : s.ssv.joinCount ≤ 3
  announcing : s.ssv.mode = .announcing → s.ssv.joinCount ≤ 2
  measureTimer : s.ssv.measureTimer =
    if s.ssv.mode = .unconfigured then .stopped else .running s.config.measureTimeout

/-! ## Share Link Controller (chapter 4) -/

/-- The attempt record of a frame in the transmit buffer: number and CRC come together, the CRC is the frame's, and only a
frame that has its number can have failed once (R77, R83). -/
structure TransmitFrame.Legal (t : TransmitFrame) (own : StationNumber) : Prop where
  crc : t.crc = t.seq.map (t.frame.crc own)
  failures : t.echoFailures ≤ 1
  numbered : t.echoFailures = 1 → t.seq.isSome

/-- The Share Link Controller's items agree: the claim state describes the transmit buffer and the line (section 4.1, R75 to
R87), a reception is on the line FRAME only, the receive buffer holds bytes of a frame in reception only and none past its
expected length (R79), and an UNCONFIGURED station claims nothing (R75). -/
structure State.LinkSafe (s : State) : Prop where
  buffer : s.slc.claim = .none ↔ s.slc.transmit = none
  frame : ∀ t, s.slc.transmit = some t → t.Legal s.ssv.ownNumber
  numbered : ∀ t, s.slc.transmit = some t → s.slc.claim = .sending → t.seq.isSome
  contending : s.slc.claim = .contending → s.slc.line = .free ∨ s.slc.line = .window
  waiting : s.slc.claim = .waiting → s.slc.line = .window ∨ s.slc.line = .frame
  sending : s.slc.claim = .sending →
    s.slc.line = .window ∨ (s.slc.line = .frame ∧ s.slc.reception = .receiving)
  reception : s.slc.reception = .idle ↔ s.slc.line ≠ .frame
  received : s.slc.reception ≠ .receiving → s.slc.received = []
  length : s.slc.received.length ≤ expectedLength s.slc.received
  resetting : s.slc.line = .resetting → s.slc.resetDrive ≠ .pending
  reset : s.slc.resetDrive ≠ .none → s.slc.claim = .none
  silent : s.ssv.mode = .unconfigured → s.slc.claim = .none ∧ s.slc.resetDrive = .none

/-! ## Frame Scheduler (chapter 5) -/

/-- How many FAULT frames an urgent queue holds. -/
def faultCount (q : List UrgentFrame) : Nat := (q.filter UrgentFrame.isFault).length

/-- The Frame Scheduler's collections: at most four urgent frames and one FAULT among them (R96, R97), SLIP ALERTs in SHARING
only (R97, R103), which is where the Slip Monitor runs (R119, R120), a waiting STATUS with the health of the present mode
(R95), the publish timer running exactly once configured (R91), nothing queued while UNCONFIGURED (R90), and no frame left
waiting while it could move (R98). -/
structure State.SchedulerSafe (s : State) : Prop where
  capacity : s.fsc.urgent.length ≤ 4
  oneFault : faultCount s.fsc.urgent ≤ 1
  alerts : ∀ a, UrgentFrame.slipAlert a ∈ s.fsc.urgent → s.ssv.mode = .sharing
  health : ∀ f, s.fsc.routine = some f → healthOf s.ssv.mode = some f.health
  publishTimer : s.fsc.publishTimer =
    if s.ssv.mode = .unconfigured then .stopped else .running s.config.publishPeriod
  quiet : s.ssv.mode = .unconfigured → s.fsc.urgent = [] ∧ s.fsc.routine = none
  moved : s.slc.canTake = true → s.fsc.urgent = [] ∧ s.fsc.routine = none
  monitor : s.slm.state = .off ↔ s.ssv.mode ≠ .sharing

/-! ## Peer Table (chapter 3) -/

/-- The demand record's fields agree with its state (section 3.2, R46, R47, R67). -/
structure DemandRecord.Legal (d : DemandRecord) (timeout : Nat) : Prop where
  range : d.demand.natAbs ≤ 16000
  sequence : d.lastSeq = none ↔ d.state = .none
  cleared : d.state = .none → d = .cleared
  timer : d.timer = if d.state = .fresh then .running timeout else .stopped

/-- A peer entry's fields in their ranges and in agreement with its state (section 3.4, R51 to R63). -/
structure PeerEntry.Legal (e : PeerEntry) (timeout : Nat) : Prop where
  gaps : e.gaps ≤ 255
  caps : e.propCap ≤ 8000 ∧ e.retCap ≤ 8000
  weight : e.weight ≤ 1000
  axleSpeed : e.axleSpeed ≤ 65535
  reported : e.reported.natAbs ≤ 8000
  grip : 4 ≤ e.grip ∧ e.grip ≤ 16
  alert : ∀ n, e.lastAlertSlip = some n → n ≤ 1000
  timer : e.silenceTimer = .stopped ∨ e.silenceTimer = .running timeout
  live : e.state = .live →
    e.joinCount = 3 ∧ e.silenceTimer = .running timeout ∧ (e.health = some .sharing ∨ e.health = some .joining)
  joining : e.state = .joining →
    1 ≤ e.joinCount ∧ e.joinCount ≤ 2 ∧ e.silenceTimer = .running timeout ∧ e.lastSeq.isSome
  others : e.state ≠ .live → e.state ≠ .joining → e.joinCount = 0
  discord : e.state ≠ .live → e.discordCount = 0 ∧ e.discordant = false
  mark : e.discordCount ≤ 4 ∧ (e.discordant = true ↔ e.discordCount = 4)
  absent : e.state = .absent →
    { e with gaps := 0, lastSeq := none, silenceTimer := .stopped } = PeerEntry.cleared

/-- The Peer Table is legal: the demand record, every entry, and nothing at number 0, at the own number, or anywhere while
UNCONFIGURED (R43, R44, R49). -/
structure State.TableSafe (s : State) : Prop where
  demand : s.ptb.demand.Legal s.config.demandTimeout
  peers : ∀ n, (s.ptb.entry n).Legal s.config.silenceTimeout
  self : s.ptb.entry 0 = .cleared ∧ s.ptb.entry s.ssv.ownNumber = .cleared
  unheard : s.ssv.mode = .unconfigured →
    s.ptb.demand = .cleared ∧ ∀ n, s.ptb.entry n = .cleared

/-! ## Wheel Capture Unit (chapter 6) -/

/-- A channel's items agree: at most four accepted periods, each no shorter than the minimum tooth period (R109, R110), a
running stop timer exactly with a last accepted edge time (R112), the speed that of the ring and 0 from an empty one (R111),
and nothing held while disabled (R105). -/
structure WheelChannel.Legal (c : WheelChannel) (cfg : Setup) : Prop where
  ring : c.ring.length ≤ 4 ∧ ∀ p ∈ c.ring, cfg.minToothPeriod ≤ p
  timer : c.stopTimer = if c.lastEdge.isSome then .running 250 else .stopped
  speed : c.speed = if c.ring = [] then 0 else ringSpeed cfg.circumference cfg.teeth c.ring
  rest : c.lastEdge = none → c.ring = []
  disabled : c.enabled = false → c.lastEdge = none
  rejected : c.rejected ≤ 255

/-- The Wheel Capture Unit is legal: both channels, the axle speed their mean (R113), and the enables those of the channel
count (R105). -/
structure State.WheelSafe (s : State) : Prop where
  chA : s.wcu.chA.Legal s.config
  chB : s.wcu.chB.Legal s.config
  axle : s.wcu.axleSpeed = meanSpeed s.wcu.chA s.wcu.chB
  enableA : s.wcu.chA.enabled = true ↔ s.ssv.mode ≠ .unconfigured
  enableB : s.wcu.chB.enabled = true ↔ (s.ssv.mode ≠ .unconfigured ∧ s.config.channelCount = 2)

/-! ## Slip Monitor (chapter 7) -/

/-- The Slip Monitor's items agree with its state and with the station mode (sections 7.1 to 7.8). -/
structure State.MonitorSafe (s : State) : Prop where
  runs : s.slm.state = .off ↔ s.ssv.mode ≠ .sharing
  off : s.slm.state = .off → { s.slm with lastSense := .none, slipEvents := 0 } = Monitor.afterReset
  sampleTimer : s.slm.state ≠ .off → s.slm.sampleTimer = .running s.config.slipSampleInterval
  settleTimer : s.slm.settleTimer = if s.slm.state = .settling then .running s.config.settleTime else .stopped
  grip : 4 ≤ s.slm.grip ∧ s.slm.grip ≤ 16
  gripTimer : s.slm.gripTimer = if s.slm.grip = 16 then .stopped else .running s.config.recoveryInterval
  capTimer : s.slm.capTimer = if s.slm.slipCap = none then .stopped else .running s.config.recoveryInterval
  slipCap : ∀ c, s.slm.slipCap = some c →
    s.config.withdrawOnSlip = true ∧ c.sense = s.slm.lastSense ∧ c.sense ≠ .none ∧ c.magnitude ≤ 8000
  watching : s.slm.state = .watching ∨ s.slm.state = .confirming → s.slm.grip = 16 ∧ s.slm.slipCap = none
  recovering : s.slm.state = .recovering → ¬(s.slm.grip = 16 ∧ s.slm.slipCap = none)
  count : s.slm.confirmCount ≤ 7 ∧ (s.slm.state ≠ .off → s.slm.confirmCount < s.config.confirmNumber)
  idle : s.slm.state = .settling ∨ s.slm.state = .watching → s.slm.confirmCount = 0
  confirming : s.slm.state = .confirming → 1 ≤ s.slm.confirmCount
  baseline : s.slm.baseline ≤ 1000
  accel : s.slm.accel.natAbs ≤ 20000
  prevRef : ∀ v, s.slm.prevRef = some v → v ≤ 65535
  slipEvents : s.slm.slipEvents ≤ 255

/-! ## Split Engine and Command Stage (chapters 1 and 2) -/

/-- A MEASURE within its ranges (R163). -/
structure Measure.Legal (m : Measure) : Prop where
  availProp : m.availProp ≤ 10000
  availRet : m.availRet ≤ 10000
  voltage : m.voltage ≤ 1000
  load : m.load ≤ 1000

/-- The demand in force is within its range and its sense is that of its sign and direction (R11). -/
structure DemandInForce.Legal (d : DemandInForce) : Prop where
  range : d.dEff.natAbs ≤ 16000
  sense : d.sense = senseOf d.dEff d.direction

/-- The Split Engine's items agree: a snapshot while BUSY (R2), nothing held while IDLE (R3, R164), legal figures (R1, R12,
R13, R163), and a share vector that belongs to the demand in force (R22, R23). -/
structure State.EngineSafe (s : State) : Prop where
  busy : s.spe.state = .busy → s.spe.snapshot.isSome
  idle : s.spe.state = .idle → s.lpt.holding = none
  unconfigured : s.ssv.mode = .unconfigured → s.spe = .afterReset
  snapshot : ∀ sn, s.spe.snapshot = some sn → sn.measure.Legal ∧ sn.demand.natAbs ≤ 16000 ∧ sn.grip ≤ 16
  holding : ∀ m, s.lpt.holding = some m → m.Legal
  inForce : s.spe.inForce.Legal
  caps : s.spe.ownCaps.prop ≤ 8000 ∧ s.spe.ownCaps.ret ≤ 8000
  weight : s.spe.ownWeight ≤ 1000
  vector : ∀ v, s.spe.vector = some v →
    v.dEff = s.spe.inForce.dEff ∧ v.sense = s.spe.inForce.sense ∧ v.seqUsed = s.spe.inForce.seqUsed

/-- The Command Stage stands behind the Split Engine's last completion, and its held command is safe: 0 outside SHARING (R40),
of the sign of the effective demand (R33), never beyond the effective cap (R36), with the motor command its conversion (R37)
and the rate-limited flag in SHARING only (R32, R40, R41). -/
structure State.CommandSafe (s : State) : Prop where
  caps : s.cms.caps = s.spe.ownCaps
  sense : s.cms.sense = s.spe.inForce.sense
  gripMode : s.cms.gripMode = s.spe.inForce.gripMode
  sharing : s.ssv.mode ≠ .sharing → s.cms.held = 0 ∧ s.cms.rateLimited = false
  sign : s.cms.held ≠ 0 → (s.cms.held < 0 ↔ s.spe.inForce.dEff < 0) ∧ s.spe.inForce.dEff ≠ 0
  cap : s.cms.held.natAbs ≤ s.cms.effectiveCap s.slm.slipCap s.config.sagCap
  motor : s.cms.motor = motorOf s.config.gearRatio s.cms.held

/-! ## Local Port (chapter 9) -/

/-- The Local Port's items agree: the notice queue within its capacity (R171), the interim timer STOPPED exactly with an empty
queue once configured and always before (R172, R173), NTC as its condition (R174), a record sent in every exchange (R159), and
the receive record buffer within 48 bytes, empty outside an exchange (R158). -/
structure State.PortSafe (s : State) : Prop where
  capacity : s.lpt.notices.length ≤ 16
  interim : s.lpt.interim = .stopped ↔ s.ssv.mode = .unconfigured ∨ s.lpt.notices = []
  running : ∀ ms, s.lpt.interim = .running ms → ms = s.config.interimTime
  ntc : s.lpt.ntc = ntcCondition s.noticeThreshold s.lpt.notices.length s.lpt.interim
  exchange : s.lpt.inExchange = true → s.lpt.outgoing.isSome
  received : s.lpt.received.length ≤ 48
  atRest : s.lpt.inExchange = false → s.lpt.received = []

/-! ## Counters (section 3.4 of the introduction) -/

/-- Every counter of the part stands within 0..255. -/
structure State.CountersSafe (s : State) : Prop where
  echoRun : s.slc.echoRun ≤ 255
  crcErrors : s.slc.crcErrors ≤ 255
  lostClaims : s.slc.lostClaims ≤ 255
  framesDropped : s.slc.framesDropped ≤ 255
  misplaced : s.slc.misplaced ≤ 255
  gaps : ∀ n, (s.ptb.entry n).gaps ≤ 255
  rejected : s.wcu.chA.rejected ≤ 255 ∧ s.wcu.chB.rejected ≤ 255
  slipEvents : s.slm.slipEvents ≤ 255
  noticesLost : s.lpt.noticesLost ≤ 255
  overruns : s.lpt.overruns ≤ 255

/-- What the torque of the motor rests on: the configuration, the supervisor, the peer figures, the Slip Monitor, the Split
Engine and the Command Stage together. -/
structure State.TorqueSafe (s : State) : Prop where
  config : s.ConfigSafe
  table : s.TableSafe
  monitor : s.MonitorSafe
  engine : s.EngineSafe
  command : s.CommandSafe

end Sys2Proof.Machine
end

