-- ==== Sys2Proof/Certificates/Slice0/Obligations.lean ====
section
/-! DEFINITION. The statements for the provers. Each command's statement says the whole next state, so that it is the
command's frame too; notices, the move into the transmit buffer and class A conditions are stated once and named in the
others. -/

open Sys2Proof Sys2Proof.Machine

/-! ## The machine -/

/-- A step runs the command at the front of the queue on the queue's rest. The idle step on an empty queue is the model's
choice (log 1). -/
def Obligations.StepRunsFrontCommand : Prop :=
  (∀ (c : Instr) (rest : List Instr) (s : State), s.pending = c :: rest → step s = exec c { s with pending := rest }) ∧
  ∀ s : State, s.pending = [] → step s = .next s

/-- No command stops the part, and none touches the commands that wait behind it (log 1, log 20). -/
def Obligations.EveryCommandCompletes : Prop :=
  ∀ (c : Instr) (s : State), ∃ t, exec c s = .next t ∧ t.pending = s.pending

/-- The model's choice (log 2): a command that is an event of a state other than the present one changes nothing. A record ends
only an exchange in progress, an expiry needs its timer running, a frame needs a reception, and each event of the share link its
line state, claim state or reset drive: a frame is sent in FRAME only, and a PENDING reset drive begins only in FREE or behind a
reception that ended at its length (R85, R86). -/
def Obligations.EventsOutOfPlaceChangeNothing : Prop :=
  ∀ s : State,
    (s.lpt.inExchange = true → exec .exchangeStart s = .next s) ∧
    (s.lpt.inExchange = false → ∀ c : Instr,
      c = .takeNotice ∨ c = .safeRequest ∨ c = .resume ∨ c = .linkResetRequest ∨ c = .nop ∨ c = .checkByteFail ∨
        (∃ k, c = .shortExchange k) ∨ (∃ b, c = .unknownRecordKind b) ∨ (∃ b, c = .readPeer b) ∨ (∃ r, c = .setup r) ∨
        (∃ r, c = .measure r) →
      exec c s = .next s) ∧
    (s.slc.line ≠ .frame ∨ s.slc.reception ≠ .receiving ∨ s.slc.claim = .sending → ∀ c : Instr,
      (∃ h p, c = .demandFrame h p) ∨ (∃ h p, c = .statusFrame h p) ∨ (∃ h p, c = .slipAlertFrame h p) ∨
        (∃ h p, c = .faultFrame h p) ∨ (∃ e, c = .receiveError e) →
      exec c s = .next s) ∧
    (s.slc.line ≠ .free → exec .windowStart s = .next s) ∧
    (s.slc.line ≠ .window ∨ s.slc.claim = .contending → exec .frameStart s = .next s) ∧
    (s.slc.line ≠ .window ∨ s.slc.claim ≠ .contending →
      exec .claimWon s = .next s ∧ ∀ slot, exec (.claimLost slot) s = .next s) ∧
    (s.slc.line ≠ .frame ∨ s.slc.claim ≠ .sending → exec .frameSent s = .next s) ∧
    (s.slc.claim ≠ .sending → exec .echoCheckFailed s = .next s) ∧
    (s.slc.line = .free ∨ s.slc.line = .resetting ∨ s.slc.resetDrive = .driving ∨ s.slc.claim = .sending →
      exec .busFreeTime s = .next s) ∧
    (s.slc.resetDrive ≠ .pending ∨ s.slc.line = .busyUnknown ∨ s.slc.line = .window ∨ s.slc.line = .resetting ∨
        (s.slc.line = .frame ∧ s.slc.reception ≠ .ended true) →
      exec .resetDriveBegin s = .next s) ∧
    (s.slc.resetDrive ≠ .driving → exec .resetDriveRelease s = .next s) ∧
    (s.slc.line = .resetting → exec .linkResetSeen s = .next s) ∧
    (s.slc.line ≠ .resetting ∨ s.slc.resetDrive = .driving → exec .resettingReleased s = .next s) ∧
    (s.fsc.publishTimer = .stopped → exec .publishTimerExpiry s = .next s) ∧
    (s.ptb.demand.timer = .stopped → exec .demandTimerExpiry s = .next s) ∧
    (∀ n, (s.ptb.entry n).silenceTimer = .stopped → exec (.silenceTimerExpiry n) s = .next s) ∧
    (s.ssv.measureTimer = .stopped → exec .measureTimerExpiry s = .next s) ∧
    (s.spe.state = .idle → exec .computationCompletion s = .next s) ∧
    (s.wcu.chA.stopTimer = .stopped → exec (.stopTimerExpiry .a) s = .next s) ∧
    (s.wcu.chB.stopTimer = .stopped → exec (.stopTimerExpiry .b) s = .next s) ∧
    (s.slm.sampleTimer = .stopped ∨ s.slm.state = .off → exec .slipSample s = .next s) ∧
    (s.slm.settleTimer = .stopped → exec .settleTimerExpiry s = .next s) ∧
    (s.slm.gripTimer = .stopped → exec .gripRecoveryExpiry s = .next s) ∧
    (s.slm.capTimer = .stopped → exec .capRecoveryExpiry s = .next s) ∧
    (s.lpt.interim = .stopped ∨ s.lpt.interim = .expired → exec .interimTimerExpiry s = .next s)

/-- A part reset in any state sets every item of every block to the value its chapter's table gives (R143, R144, R1, R26,
R66, R68, R90, R106, R118, R158). -/
def Obligations.PartResetSetsEveryItem : Prop :=
  ∀ (powerOn stn0 stn1 stn2 : Bool) (s : State), ∃ t, exec (.partReset powerOn stn0 stn1 stn2) s = .next t ∧
    t.ssv.ownNumber.val = stn0.toNat + 2 * stn1.toNat + 4 * stn2.toNat ∧
    t.ssv.resetCause = (if powerOn then .power else .pin) ∧
    t.ssv.mode = .unconfigured ∧ t.ssv.faultCause = none ∧ t.ssv.clashBar = false ∧ t.ssv.measureTimer = .stopped ∧
    t.ssv.measureLost = false ∧ t.ssv.joinCount = 0 ∧
    t.slc = { line := .busyUnknown, claim := .none, transmit := none, received := [], reception := .idle, ownAbort := false,
              resetDrive := .none, echoRun := 0, crcErrors := 0, lostClaims := 0, framesDropped := 0, misplaced := 0 } ∧
    t.fsc = { urgent := [], routine := none, publishTimer := .stopped, ownSeq := 0 } ∧
    t.ptb.demand = { state := .none, demand := 0, direction := .forward, gripMode := .normal, lastSeq := none,
                     timer := .stopped } ∧
    (∀ n, t.ptb.entry n =
      { state := .absent, joinCount := 0, lastSeq := none, gaps := 0, health := none, propCap := 0, retCap := 0,
        weight := 0, axleSpeed := 0, reported := 0, reportedDemandSeq := none, rateLimited := false, slipFlag := false,
        grip := 16, lastAlertSlip := none, lastFaultCause := none, discordCount := 0, discordant := false,
        silenceTimer := .stopped }) ∧
    t.wcu.chA = { enabled := false, lastEdge := none, ring := [], speed := 0, stopTimer := .stopped, rejected := 0 } ∧
    t.wcu.chB = { enabled := false, lastEdge := none, ring := [], speed := 0, stopTimer := .stopped, rejected := 0 } ∧
    t.wcu.axleSpeed = 0 ∧
    t.slm = { state := .off, lastSense := .none, prevRef := none, accel := 0, baseline := 0, confirmCount := 0,
              grip := 16, slipCap := none, settleTimer := .stopped, sampleTimer := .stopped, gripTimer := .stopped,
              capTimer := .stopped, slipEvents := 0 } ∧
    t.spe = { state := .idle, voidMark := false, snapshot := none,
              inForce := { dEff := 0, sense := .none, direction := .forward, gripMode := .normal, seqUsed := none },
              ownWeight := 0, ownCaps := { prop := 0, ret := 0 }, vector := none } ∧
    t.cms = { held := 0, motor := 0, caps := { prop := 0, ret := 0 }, sense := .none, gripMode := .normal, sag := .clear,
              rateLimited := false, resultSeq := 0 } ∧
    t.lpt.inExchange = false ∧ t.lpt.received = [] ∧ t.lpt.holding = none ∧ t.lpt.reply = none ∧ t.lpt.notices = [] ∧
    t.lpt.interim = .stopped ∧ t.lpt.ntc = false ∧ t.lpt.sagSeen = false ∧ t.lpt.clamped = false ∧
    t.lpt.overrunSeen = false ∧ t.lpt.noticesLost = 0 ∧ t.lpt.overruns = 0 ∧ t.lpt.msCount = 0

/-! ## What is sent at the start of an exchange -/

/-- With the reply slot empty, the start of an exchange sends a STATE record read from its owners, and clears the flags and
counters it carries (R159, R169, R170, R114). -/
def Obligations.ExchangeStartSendsState : Prop :=
  ∀ s : State, s.lpt.inExchange = false → s.lpt.reply = none →
    exec .exchangeStart s = .next
      { s with
        wcu := { s.wcu with chA := { s.wcu.chA with rejected := 0 }, chB := { s.wcu.chB with rejected := 0 } }
        lpt := { s.lpt with
          inExchange := true, received := []
          outgoing := some (.state {
            ownNumber := s.ssv.ownNumber
            mode := s.ssv.mode
            faultCause := s.ssv.faultCause
            resetCause := s.ssv.resetCause
            clashBar := s.ssv.clashBar
            resultSeq := s.cms.resultSeq
            held := s.cms.held
            motor := s.cms.motor
            rateLimited := s.cms.rateLimited
            sagNow := decide (s.cms.sag = .inSag)
            effectiveCap := s.cms.effectiveCap s.slm.slipCap s.config.sagCap
            dEff := s.spe.inForce.dEff
            sense := s.spe.inForce.sense
            participants := match s.spe.vector with | some v => v.entries.length | none => 0
            shortfall := match s.spe.vector with | some v => v.shortfall | none => 0
            demandState := s.ptb.demand.state
            monitorState := s.slm.state
            grip := s.slm.grip
            rejectedA := s.wcu.chA.rejected
            rejectedB := s.wcu.chB.rejected
            noticeCount := s.lpt.notices.length
            noticesLost := s.lpt.noticesLost
            overruns := s.lpt.overruns
            sagSeen := s.lpt.sagSeen
            clamped := s.lpt.clamped
            overrunSeen := s.lpt.overrunSeen })
          sagSeen := false, clamped := false, overrunSeen := false, noticesLost := 0, overruns := 0 } }

/-- With an ACK, a REFUSE or a NOTICE request in the reply slot, the start of an exchange sends it and empties the slot. A
NOTICE takes the oldest notice out of the queue, stops the interim timer when the queue empties, and moves NTC; from an empty
queue it is sent empty (R159, R161, R165, R172, R174). -/
def Obligations.ExchangeStartSendsReply : Prop :=
  ∀ s : State, s.lpt.inExchange = false →
    (∀ k, s.lpt.reply = some (.ack k) → exec .exchangeStart s = .next
      { s with lpt := { s.lpt with reply := none, inExchange := true, received := [], outgoing := some (.ack k) } }) ∧
    (∀ k reason i, s.lpt.reply = some (.refuse k reason i) → exec .exchangeStart s = .next
      { s with
        lpt := { s.lpt with
          reply := none, inExchange := true, received := [], outgoing := some (.refuse k reason i) } }) ∧
    (s.lpt.reply = some .notice → s.lpt.notices = [] → exec .exchangeStart s = .next
      { s with
        lpt := { s.lpt with reply := none, inExchange := true, received := [], outgoing := some (.notice none 0) } }) ∧
    ∀ n rest, s.lpt.reply = some .notice → s.lpt.notices = n :: rest → exec .exchangeStart s = .next
      { s with
        lpt := { s.lpt with
          reply := none
          inExchange := true, received := []
          outgoing := some (.notice (some n) rest.length)
          notices := rest
          interim := if rest = [] then .stopped else s.lpt.interim
          ntc := decide ((if s.ssv.mode = .unconfigured then 1 else s.config.noticeThreshold) ≤ rest.length) ||
            decide (rest ≠ [] ∧ s.lpt.interim = .expired) } }

/-- A PEER_VIEW request in the reply slot is formed from the entry as it stands at the send: the demand record for station 0
(R48); the SELF entry for the own number, which clears the four link counters and the slip event counter (R50); else a peer
entry, which clears its gap counter (R65, R166). While UNCONFIGURED the SELF view has no health (log 11). -/
def Obligations.ExchangeStartSendsPeerView : Prop :=
  ∀ s : State, s.lpt.inExchange = false →
    (s.lpt.reply = some (.peerView 0) → exec .exchangeStart s = .next
      { s with
        lpt := { s.lpt with
          reply := none, inExchange := true, received := [], outgoing := some (.demandView s.ptb.demand) } }) ∧
    (s.ssv.ownNumber ≠ 0 → s.lpt.reply = some (.peerView s.ssv.ownNumber) → exec .exchangeStart s = .next
      { s with
        slc := { s.slc with crcErrors := 0, lostClaims := 0, framesDropped := 0, misplaced := 0 }
        slm := { s.slm with slipEvents := 0 }
        lpt := { s.lpt with
          reply := none
          inExchange := true, received := []
          outgoing := some (.selfView {
            number := s.ssv.ownNumber
            mode := s.ssv.mode
            health := match s.ssv.mode with
              | .unconfigured => none
              | .announcing => some .joining
              | .sharing => some .sharing
              | .safe => some .withdrawn
            figures := s.figures
            ownSeq := s.fsc.ownSeq
            joinCount := s.ssv.joinCount
            echoRun := s.slc.echoRun
            crcErrors := s.slc.crcErrors
            lostClaims := s.slc.lostClaims
            framesDropped := s.slc.framesDropped
            misplaced := s.slc.misplaced
            slipEvents := s.slm.slipEvents }) } }) ∧
    ∀ n, n ≠ 0 → n ≠ s.ssv.ownNumber → s.lpt.reply = some (.peerView n) → exec .exchangeStart s = .next
      { s with
        ptb := { s.ptb with peers := s.ptb.peers.set n.val { s.ptb.entry n with gaps := 0 } }
        lpt := { s.lpt with
          reply := none, inExchange := true, received := [], outgoing := some (.peerView n (s.ptb.entry n)) } }

/-! ## What the end of an exchange does -/

/-- TAKE_NOTICE and READ_PEER of 0..7 are accepted in every mode and place a request; READ_PEER of a number above 7 is refused
with reason RANGE; an exchange cut short and a record that fails its check are refused with LENGTH and CHECK and no kind (R160,
R161, R165, R166, R178). -/
def Obligations.RequestsAndBadRecordsPlaceReplies : Prop :=
  ∀ s : State, s.lpt.inExchange = true →
    exec .takeNotice s = .next { s with lpt := { s.lpt with inExchange := false, received := [], reply := some .notice } } ∧
    (∀ (b : Byte) (n : StationNumber), b.toNat = n.val → exec (.readPeer b) s = .next
      { s with lpt := { s.lpt with inExchange := false, received := [], reply := some (.peerView n) } }) ∧
    (∀ b : Byte, 8 ≤ b.toNat → exec (.readPeer b) s = .next
      { s with
        lpt := { s.lpt with inExchange := false, received := [], reply := some (.refuse (some 0x04) .range none) } }) ∧
    (∀ k, exec (.shortExchange k) s = .next
      { s with lpt := { s.lpt with inExchange := false, received := [], reply := some (.refuse none .length none) } }) ∧
    exec .checkByteFail s = .next
      { s with lpt := { s.lpt with inExchange := false, received := [], reply := some (.refuse none .check none) } }

/-- NOP ends its exchange and does nothing more, in every mode; UNKNOWN_RECORD_KIND is refused with reason KIND and the code it
bears, and has no other effect (R168). For the code of a defined kind, which that command never bears, this is the model's choice
(log 23). A record of 48 bytes that passes its check is a NOP by kind byte 8, and by a kind byte of 0 or above 8, the codes of the
outgoing kinds included, an UNKNOWN_RECORD_KIND with that code (R160, R178). -/
def Obligations.NopAndUnknownKinds : Prop :=
  (∀ s : State, s.lpt.inExchange = true →
    exec .nop s = .next { s with lpt := { s.lpt with inExchange := false, received := [] } }) ∧
  (∀ (code : Byte) (s : State), s.lpt.inExchange = true → exec (.unknownRecordKind code) s = .next
      { s with
        lpt := { s.lpt with inExchange := false, received := [], reply := some (.refuse (some code) .kind none) } }) ∧
  ∀ (code : Byte) (rest : List Byte), rest.length = 47 → byteSum (code :: rest) = 0 →
    (code = 8 → recordCommand (code :: rest) = .nop) ∧
    (code = 0 ∨ 8 < code.toNat → recordCommand (code :: rest) = .unknownRecordKind code)

/-- The records that a mode refuses, each with its reason and no other effect: MEASURE and SAFE_REQUEST in UNCONFIGURED with
NOT_CONFIGURED (R163, R167), RESUME outside SAFE with STATE and in SAFE with the clash bar set with CLASH (R152),
LINK_RESET_REQUEST in UNCONFIGURED with STATE and during a reset with BUSY (R86), SETUP out of UNCONFIGURED with
ALREADY_CONFIGURED, at straps of 0 with STRAP, and with a field out of range with RANGE and its index (R162). -/
def Obligations.RecordsRefused : Prop :=
  ∀ s : State, s.lpt.inExchange = true →
    let refused (kind : Byte) (reason : Reason) (index : Option Nat) : Host.Outcome State Fault Refusal :=
      .next { s with
        lpt := { s.lpt with inExchange := false, received := [], reply := some (.refuse (some kind) reason index) } }
    (s.ssv.mode = .unconfigured →
      (∀ r, exec (.measure r) s = refused 0x02 .notConfigured none) ∧
      exec .safeRequest s = refused 0x05 .notConfigured none ∧
      exec .resume s = refused 0x06 .state none ∧
      exec .linkResetRequest s = refused 0x07 .state none) ∧
    (s.ssv.mode ≠ .safe → exec .resume s = refused 0x06 .state none) ∧
    (s.ssv.mode = .safe → s.ssv.clashBar = true → exec .resume s = refused 0x06 .clash none) ∧
    (s.ssv.mode ≠ .unconfigured → s.slc.line = .resetting ∨ s.slc.resetDrive = .pending ∨ s.slc.resetDrive = .driving →
      exec .linkResetRequest s = refused 0x07 .busy none) ∧
    (∀ r, s.ssv.mode ≠ .unconfigured → exec (.setup r) s = refused 0x01 .alreadyConfigured none) ∧
    (∀ r, s.ssv.mode = .unconfigured → s.ssv.ownNumber = 0 → exec (.setup r) s = refused 0x01 .strap none) ∧
    ∀ r i, s.ssv.mode = .unconfigured → s.ssv.ownNumber ≠ 0 → firstOutOfRange r = some i →
      exec (.setup r) s = refused 0x01 .range (some i)

/-- The range check of SETUP, field by field: with the field of each index and its range as R162's table gives them, and a
defined code in the two coded fields, a record passes exactly when all 25 are in range, and else the check names the least index
whose field is not. A record that passes is stored as a configuration in range. -/
def Obligations.SetupRangeCheck : Prop :=
  ∀ r : SetupRecord,
    let fieldInRange (index : Nat) : Prop := match index with
      | 1 => 1 ≤ r.channelCount.toNat ∧ r.channelCount.toNat ≤ 2
      | 2 => 30 ≤ r.teeth.toNat ∧ r.teeth.toNat ≤ 120
      | 3 => 1200 ≤ r.circumference.toNat ∧ r.circumference.toNat ≤ 3600
      | 4 => 20 ≤ r.minToothPeriod.toNat ∧ r.minToothPeriod.toNat ≤ 2000
      | 5 => 64 ≤ r.gearRatio.toNat ∧ r.gearRatio.toNat ≤ 1600
      | 6 => 1 ≤ r.publishPeriod.toNat ∧ r.publishPeriod.toNat ≤ 20
      | 7 => 3 ≤ r.silenceTimeout.toNat ∧ r.silenceTimeout.toNat ≤ 200
      | 8 => 5 ≤ r.demandTimeout.toNat ∧ r.demandTimeout.toNat ≤ 200
      | 9 => 2 ≤ r.measureTimeout.toNat ∧ r.measureTimeout.toNat ≤ 50
      | 10 => 10 ≤ r.rampLimit.toNat ∧ r.rampLimit.toNat ≤ 4000
      | 11 => -100 ≤ r.loadTransfer.toInt ∧ r.loadTransfer.toInt ≤ 100
      | 12 => 1 ≤ r.slipSampleInterval.toNat ∧ r.slipSampleInterval.toNat ≤ 16
      | 13 => 20 ≤ r.slipThreshold.toNat ∧ r.slipThreshold.toNat ≤ 500
      | 14 => 1 ≤ r.confirmNumber.toNat ∧ r.confirmNumber.toNat ≤ 8
      | 15 => r.settleTime.toNat ≤ 2000
      | 16 => r.blockingMode.toNat ≤ 3
      | 17 => r.launchSpeed.toNat ≤ 5000
      | 18 => r.withdrawOnSlip.toNat ≤ 1
      | 19 => 50 ≤ r.recoveryInterval.toNat ∧ r.recoveryInterval.toNat ≤ 1000
      | 20 => 10 ≤ r.recoveryStep.toNat ∧ r.recoveryStep.toNat ≤ 2000
      | 21 => 100 ≤ r.sagThreshold.toNat ∧ r.sagThreshold.toNat ≤ 900
      | 22 => r.sagCap.toNat ≤ 8000
      | 23 => 10 ≤ r.discordBand.toNat ∧ r.discordBand.toNat ≤ 2000
      | 24 => 1 ≤ r.noticeThreshold.toNat ∧ r.noticeThreshold.toNat ≤ 16
      | 25 => 1 ≤ r.interimTime.toNat ∧ r.interimTime.toNat ≤ 255
      | _ => True
    (firstOutOfRange r = none ↔ ∀ i, fieldInRange i) ∧
    (∀ i, firstOutOfRange r = some i ↔ ¬fieldInRange i ∧ ∀ j, j < i → fieldInRange j) ∧
    (firstOutOfRange r = none ↔
      (storedSetup r).InRange ∧ r.blockingMode.toNat ≤ 3 ∧ r.withdrawOnSlip.toNat ≤ 1)

/-- SETUP acceptance: the configuration stored as it came, mode ANNOUNCING, measure and publish timers started, channel A
enabled and channel B with a channel count of 2, the Command Stage set again, SETUP_ACCEPTED queued behind what was queued,
the interim timer started, ACK in the reply slot (R162, R146, R90, R106, R26, R171, R173, R174, R175). -/
def Obligations.SetupAccepted : Prop :=
  ∀ (r : SetupRecord) (s : State), s.lpt.inExchange = true → s.ssv.mode = .unconfigured → s.ssv.ownNumber ≠ 0 →
    firstOutOfRange r = none →
    let notices := if s.lpt.notices.length < 16
      then s.lpt.notices ++ [⟨.setupAccepted, some s.ssv.ownNumber, none, s.lpt.msCount⟩] else s.lpt.notices
    exec (.setup r) s = .next
      { s with
        config := {
          channelCount := r.channelCount.toNat
          teeth := r.teeth.toNat
          circumference := r.circumference.toNat
          minToothPeriod := r.minToothPeriod.toNat
          gearRatio := r.gearRatio.toNat
          publishPeriod := r.publishPeriod.toNat
          silenceTimeout := r.silenceTimeout.toNat
          demandTimeout := r.demandTimeout.toNat
          measureTimeout := r.measureTimeout.toNat
          rampLimit := r.rampLimit.toNat
          loadTransfer := r.loadTransfer.toInt
          slipSampleInterval := r.slipSampleInterval.toNat
          slipThreshold := r.slipThreshold.toNat
          confirmNumber := r.confirmNumber.toNat
          settleTime := r.settleTime.toNat
          blockingMode :=
            if r.blockingMode = 0 then .none else if r.blockingMode = 1 then .ramp
            else if r.blockingMode = 2 then .launch else .rampAndLaunch
          launchSpeed := r.launchSpeed.toNat
          withdrawOnSlip := decide (r.withdrawOnSlip = 1)
          recoveryInterval := r.recoveryInterval.toNat
          recoveryStep := r.recoveryStep.toNat
          sagThreshold := r.sagThreshold.toNat
          sagCap := r.sagCap.toNat
          discordBand := r.discordBand.toNat
          noticeThreshold := r.noticeThreshold.toNat
          interimTime := r.interimTime.toNat }
        ssv := { s.ssv with mode := .announcing, measureTimer := .running r.measureTimeout.toNat, joinCount := 0 }
        fsc := { s.fsc with publishTimer := .running r.publishPeriod.toNat }
        wcu := {
          chA := { enabled := true, lastEdge := none, ring := [], speed := 0, stopTimer := .stopped,
                   rejected := s.wcu.chA.rejected }
          chB := { enabled := decide (r.channelCount = 2), lastEdge := none, ring := [], speed := 0,
                   stopTimer := .stopped, rejected := s.wcu.chB.rejected }
          axleSpeed := 0 }
        cms := { held := 0, motor := 0, caps := { prop := 0, ret := 0 }, sense := .none, gripMode := .normal,
                 sag := .clear, rateLimited := false, resultSeq := 0 }
        lpt := { s.lpt with
          inExchange := false, received := []
          reply := some (.ack .setup)
          notices := notices
          noticesLost := if s.lpt.notices.length < 16 then s.lpt.noticesLost else min 255 (s.lpt.noticesLost + 1)
          interim := .running r.interimTime.toNat
          ntc := decide (r.noticeThreshold.toNat ≤ notices.length) } }

/-- An accepted MEASURE in range restarts the measure timer. With the Split Engine IDLE it starts a computation, which takes its
snapshot; with the Split Engine BUSY it waits in the holding slot, or takes the place of the one held there, which is counted,
flagged and named in a MEASURE_OVERRUN notice. A MEASURE with a field out of its range sets CLAMPED and queues one CLAMPED notice
with its sequence as its value, and is then taken as the MEASURE with its fields clamped (R163, R164, R2, R4, R154). -/
def Obligations.MeasureAccepted : Prop :=
  (∀ (r : MeasureRecord) (s : State), s.lpt.inExchange = true → s.ssv.mode ≠ .unconfigured →
    r.availProp.toNat ≤ 10000 → r.availRet.toNat ≤ 10000 → r.voltage.toNat ≤ 1000 → r.load.toNat ≤ 1000 →
    let m : Measure := ⟨r.seq, r.availProp.toNat, r.availRet.toNat, r.voltage.toNat, r.load.toNat⟩
    let ssv := { s.ssv with measureTimer := .running s.config.measureTimeout }
    (s.spe.state = .idle → exec (.measure r) s = .next
      { s with
        ssv := ssv
        spe := { s.spe with
          state := .busy
          voidMark := false
          snapshot := some {
            measure := m
            demandState := s.ptb.demand.state
            demand := s.ptb.demand.demand
            direction := s.ptb.demand.direction
            gripMode := s.ptb.demand.gripMode
            lastSeq := s.ptb.demand.lastSeq
            peers := s.ptb.copies s.ssv.ownNumber
            grip := s.slm.grip
            accel := s.slm.accel
            mode := s.ssv.mode } }
        lpt := { s.lpt with inExchange := false, received := [] } }) ∧
    (s.spe.state = .busy → s.lpt.holding = none → exec (.measure r) s = .next
      { s with ssv := ssv, lpt := { s.lpt with inExchange := false, received := [], holding := some m } }) ∧
    ∀ old, s.spe.state = .busy → s.lpt.holding = some old → exec (.measure r) s = .next
      ({ s with
          ssv := ssv
          lpt := { s.lpt with
            inExchange := false, received := []
            holding := some m
            overruns := min 255 (s.lpt.overruns + 1)
            overrunSeen := true } : State }.notify .measureOverrun none (some old.seq.toNat))) ∧
  ∀ (r : MeasureRecord) (s : State), s.lpt.inExchange = true → s.ssv.mode ≠ .unconfigured →
    (10000 < r.availProp.toNat ∨ 10000 < r.availRet.toNat ∨ 1000 < r.voltage.toNat ∨ 1000 < r.load.toNat) →
    exec (.measure r) s =
      exec
        (.measure
          { seq := r.seq
            availProp := if 10000 < r.availProp.toNat then 10000 else r.availProp
            availRet := if 10000 < r.availRet.toNat then 10000 else r.availRet
            voltage := if 1000 < r.voltage.toNat then 1000 else r.voltage
            load := if 1000 < r.load.toNat then 1000 else r.load })
        ({ s with lpt := { s.lpt with clamped := true } : State }.notify .clamped none (some r.seq.toNat))

/-! ## Notices, the station mode and its faults -/

/-- A notice joins the queue with the millisecond count, or is dropped and counted at a full queue; joining an empty queue
starts the interim timer once configured; INTERIM_TIMER_EXPIRY while RUNNING makes the timer EXPIRED; NTC follows its condition
each time; MILLISECOND_TICK adds 1 to the millisecond count, wrapping (R171, R172, R173, R174). -/
def Obligations.NoticesAndPortTimers : Prop :=
  (∀ (kind : NoticeKind) (station : Option StationNumber) (value : Option Nat) (s : State),
    let threshold := if s.ssv.mode = .unconfigured then 1 else s.config.noticeThreshold
    (s.lpt.notices.length < 16 →
      s.notify kind station value =
        { s with
          lpt := { s.lpt with
            notices := s.lpt.notices ++ [⟨kind, station, value, s.lpt.msCount⟩]
            interim := if s.ssv.mode ≠ .unconfigured ∧ s.lpt.notices = [] then .running s.config.interimTime
              else s.lpt.interim
            ntc := decide (threshold ≤ s.lpt.notices.length + 1) ||
              decide (s.lpt.interim = .expired ∧ (s.ssv.mode = .unconfigured ∨ s.lpt.notices ≠ [])) } }) ∧
    (16 ≤ s.lpt.notices.length →
      s.notify kind station value =
        { s with
          lpt := { s.lpt with
            noticesLost := min 255 (s.lpt.noticesLost + 1)
            ntc := decide (threshold ≤ s.lpt.notices.length) || decide (s.lpt.interim = .expired) } })) ∧
  (∀ (ms : Nat) (s : State), s.lpt.interim = .running ms → exec .interimTimerExpiry s = .next
    { s with
      lpt := { s.lpt with
        interim := .expired
        ntc := decide ((if s.ssv.mode = .unconfigured then 1 else s.config.noticeThreshold) ≤ s.lpt.notices.length) ||
          decide (s.lpt.notices ≠ []) } }) ∧
  ∀ s : State, exec .millisecondTick s = .next { s with lpt := { s.lpt with msCount := s.lpt.msCount + 1 } }

/-- A class A condition: none arises in UNCONFIGURED; in ANNOUNCING and SHARING it is SAFE entry, all blocks in one event
(R149, R40, R97, R95, R120, R151); in SAFE it raises its notice, and a CLASH sets the clash bar (R148, R150). -/
def Obligations.ClassACondition : Prop :=
  ∀ (cause : FaultCause) (s : State),
    (s.ssv.mode = .unconfigured → s.classA cause = s) ∧
    (s.ssv.mode = .announcing ∨ s.ssv.mode = .sharing →
      let quiet : State := if s.ssv.mode = .sharing
        then { s with
          cms := { s.cms with held := 0, motor := 0, rateLimited := false, resultSeq := s.cms.resultSeq + 1 }
          slm := { s.slm with
            state := .off, grip := 16, slipCap := none, baseline := 0, confirmCount := 0, accel := 0, prevRef := none,
            settleTimer := .stopped, sampleTimer := .stopped, gripTimer := .stopped, capTimer := .stopped } }
        else s
      s.classA cause =
        (({ quiet with
          ssv := { s.ssv with
            mode := .safe
            faultCause := some cause
            measureLost := false
            clashBar := s.ssv.clashBar || decide (cause = .clash) }
          fsc := { s.fsc with
            urgent := queueFault s.fsc.urgent cause
            routine := s.fsc.routine.map (fun _ => ⟨.withdrawn, quiet.figures⟩) } : State }).notify .faultEntered none
              (some cause.code)).move) ∧
    (s.ssv.mode = .safe →
      s.classA cause =
        ({ s with ssv := { s.ssv with clashBar := s.ssv.clashBar || decide (cause = .clash) } : State }).notify
          .faultEntered none (some cause.code))

/-- SAFE_REQUEST is accepted in every configured mode: class A LOCAL_REQUEST, and ACK (R148, R167). RESUME accepted: back to
ANNOUNCING with the cause, the echo-failure run and the join count cleared, the measure timer restarted, a waiting STATUS
replaced by one of health JOINING, and ACK (R152, R95). -/
def Obligations.SafeRequestAndResumeAccepted : Prop :=
  (∀ s : State, s.lpt.inExchange = true → s.ssv.mode ≠ .unconfigured →
    exec .safeRequest s = .next
      (let t := ({ s with lpt := { s.lpt with inExchange := false, received := [] } : State }).classA .localRequest
       { t with lpt := { t.lpt with reply := some (.ack .safeRequest) } })) ∧
  ∀ s : State, s.lpt.inExchange = true → s.ssv.mode = .safe → s.ssv.clashBar = false →
    exec .resume s = .next
      ({ s with
          ssv := { s.ssv with
            mode := .announcing, faultCause := none, joinCount := 0, measureTimer := .running s.config.measureTimeout }
          slc := { s.slc with echoRun := 0 }
          fsc := { s.fsc with routine := s.fsc.routine.map (fun _ => ⟨.joining, s.figures⟩) }
          lpt := { s.lpt with inExchange := false, received := [], reply := some (.ack .resume) } : State }).move

/-- MEASURE_TIMER_EXPIRY restarts the timer at once. In ANNOUNCING and SHARING it is class A MEASURE_TIMEOUT; in SAFE it queues
MEASURE_LOST once and sets the measure-lost mark (R154, R155). -/
def Obligations.MeasureTimerExpires : Prop :=
  ∀ (ms : Nat) (s : State), s.ssv.measureTimer = .running ms →
    let restarted : State := { s with ssv := { s.ssv with measureTimer := .running s.config.measureTimeout } }
    (s.ssv.mode = .announcing ∨ s.ssv.mode = .sharing →
      exec .measureTimerExpiry s = .next (restarted.classA .measureTimeout)) ∧
    (s.ssv.mode = .safe → s.ssv.measureLost = false →
      exec .measureTimerExpiry s = .next
        (({ restarted with ssv := { restarted.ssv with measureLost := true } : State }).notify .measureLost none none)) ∧
    (s.ssv.mode = .safe → s.ssv.measureLost = true → exec .measureTimerExpiry s = .next restarted)

/-! ## The share link -/

/-- LINK_RESET_REQUEST accepted: the transmit buffer discarded, the claim given up, the drive begun at once in FREE and WINDOW
and pending in BUSY_UNKNOWN and FRAME, and ACK. That the remainder of an own frame cut short is not counted later is the
model's reading (R86; log 13). -/
def Obligations.LinkResetRequestAccepted : Prop :=
  ∀ s : State, s.lpt.inExchange = true → s.ssv.mode ≠ .unconfigured → s.slc.line ≠ .resetting → s.slc.resetDrive = .none →
    exec .linkResetRequest s = .next
      { s with
        slc := { s.slc with
          transmit := none
          claim := .none
          ownAbort := s.slc.ownAbort || decide (s.slc.claim = .sending)
          resetDrive := if s.slc.line = .free ∨ s.slc.line = .window then .driving else .pending }
        lpt := { s.lpt with inExchange := false, received := [], reply := some (.ack .linkResetRequest) } }

/-- The line state's own moves: WINDOW at a leading edge in FREE (R71), FRAME at the frame start (R72), BUSY_UNKNOWN when the
line turns recessive after RESETTING (R74), and a PENDING reset drive begun with the line FREE or at a frame's end (R86). -/
def Obligations.LineStateMoves : Prop :=
  ∀ s : State,
    (s.slc.line = .free → exec .windowStart s = .next { s with slc := { s.slc with line := .window } }) ∧
    (s.slc.line = .window → s.slc.claim ≠ .contending →
      exec .frameStart s = .next { s with slc := { s.slc with line := .frame, received := [], reception := .receiving } }) ∧
    (s.slc.line = .resetting → s.slc.resetDrive ≠ .driving →
      exec .resettingReleased s = .next { s with slc := { s.slc with line := .busyUnknown } }) ∧
    (s.slc.resetDrive = .pending → s.slc.line = .free →
      exec .resetDriveBegin s = .next { s with slc := { s.slc with resetDrive := .driving } }) ∧
    (s.slc.resetDrive = .pending → s.slc.line = .frame → s.slc.reception = .ended true →
      exec .resetDriveBegin s = .next { s with slc := { s.slc with resetDrive := .driving } })

/-- A claim won: on its first the frame takes the own sequence number and its CRC, and the number advances; on a retry it keeps
both. A claim lost in a slot before the frame's own leaves it waiting and is counted. A contender drives nothing in the window
before its slot, the winner the pulse of its own slot and from the frame start the bits of its frame, its bytes back to back, a loser
nothing (R69, R76, R77, R101). -/
def Obligations.ClaimsWonAndLost : Prop :=
  ∀ (t : TransmitFrame) (s : State), s.slc.line = .window → s.slc.claim = .contending → s.slc.transmit = some t →
    let own := match t.frame with
      | .urgent _ => s.ssv.ownNumber.val
      | .status _ => 8 + s.ssv.ownNumber.val
    (t.seq = none → exec .claimWon s = .next
      { s with
        slc := { s.slc with
          claim := .sending
          transmit := some
            { t with seq := some s.fsc.ownSeq, crc := some (crc16 (t.frame.body s.ssv.ownNumber s.fsc.ownSeq)) } }
        fsc := { s.fsc with ownSeq := s.fsc.ownSeq + 1 } }) ∧
    (t.seq ≠ none → exec .claimWon s = .next { s with slc := { s.slc with claim := .sending } }) ∧
    (∀ slot : Fin 16, slot.val < own → exec (.claimLost slot) s = .next
      { s with slc := { s.slc with claim := .waiting, lostClaims := min 255 (s.slc.lostClaims + 1) } }) ∧
    (s.slc.resetDrive ≠ .driving →
      s.drive = .nothing ∧
      (∀ won, exec .claimWon s = .next won → won.drive = .claimPulse own ∧
        ∀ started, exec .frameStart won = .next started →
          ∀ u bytes, won.slc.transmit = some u → u.bytes s.ssv.ownNumber = some bytes →
            started.drive = .ownFrame (bytes.flatMap byteLevels)) ∧
      ∀ (slot : Fin 16) (lost : State), slot.val < own → exec (.claimLost slot) s = .next lost → lost.drive = .nothing)

/-- BUS_FREE_TIME frees a line in BUSY_UNKNOWN, WINDOW or FRAME that this station does not drive: a waiting frame contends, a
reception short of its length is counted as a receive error (log 12), and the Frame Scheduler's next frame moves (R70, R72,
R73, R75, R79, R98). -/
def Obligations.BusFreeTime : Prop :=
  ∀ s : State, s.slc.line = .busyUnknown ∨ s.slc.line = .window ∨ s.slc.line = .frame →
    s.slc.resetDrive ≠ .driving → s.slc.claim ≠ .sending →
    exec .busFreeTime s = .next
      ({ s with
          slc := { s.slc with
            line := .free
            received := []
            reception := .idle
            ownAbort := false
            claim := if s.slc.claim = .waiting ∧ s.slc.transmit ≠ none then .contending else s.slc.claim
            crcErrors := if s.slc.line = .frame ∧ s.slc.reception = .receiving ∧ s.slc.ownAbort = false
              then min 255 (s.slc.crcErrors + 1) else s.slc.crcErrors } : State }).move

/-- A receive error ends the reception and is counted, unless the reception went on behind an own frame that was aborted; only a
CRC mismatch has the whole expected length in (R79, R82). -/
def Obligations.ReceiveErrorCounted : Prop :=
  ∀ (cause : ReceiveErrorCause) (s : State),
    s.slc.line = .frame → s.slc.reception = .receiving → s.slc.claim ≠ .sending →
    exec (.receiveError cause) s = .next
      { s with
        slc := { s.slc with
          received := []
          reception := .ended (decide (cause = .crcMismatch))
          ownAbort := false
          crcErrors := if s.slc.ownAbort then s.slc.crcErrors else min 255 (s.slc.crcErrors + 1) } }

/-- A frame sent in full empties the transmit buffer and ends the echo-failure run. In ANNOUNCING a JOINING STATUS adds one to the
own join count and a WITHDRAWN STATUS or a FAULT returns it to 0; the third brings the station to SHARING, where the Slip
Monitor begins its settling and a waiting STATUS is replaced (R85, R102, R147, R119, R121, R95). -/
def Obligations.FrameSent : Prop :=
  ∀ (t : TransmitFrame) (s : State), s.slc.line = .frame → s.slc.claim = .sending → s.slc.transmit = some t →
    let sent : State := { s with
      slc := { s.slc with
        transmit := none, claim := .none, received := [], reception := .ended true, ownAbort := false
        echoRun := 0 } }
    (s.ssv.mode ≠ .announcing → exec .frameSent s = .next sent.move) ∧
    (∀ a, s.ssv.mode = .announcing → s.ssv.joinCount ≤ 2 → t.frame = .urgent (.slipAlert a) →
      exec .frameSent s = .next sent.move) ∧
    (s.ssv.mode = .announcing → (∃ c, t.frame = .urgent (.fault c)) ∨ (∃ f, t.frame = .status ⟨.withdrawn, f⟩) →
      exec .frameSent s = .next ({ sent with ssv := { s.ssv with joinCount := 0 } : State }).move) ∧
    (∀ f, s.ssv.mode = .announcing → t.frame = .status ⟨.joining, f⟩ → s.ssv.joinCount ≤ 1 →
      exec .frameSent s = .next ({ sent with ssv := { s.ssv with joinCount := s.ssv.joinCount + 1 } : State }).move) ∧
    ∀ f, s.ssv.mode = .announcing → t.frame = .status ⟨.joining, f⟩ → s.ssv.joinCount = 2 →
      let settled : MonitorState := if s.slm.grip = 16 ∧ s.slm.slipCap = none then .watching else .recovering
      let sharing : State := { sent with
        ssv := { s.ssv with mode := .sharing, joinCount := 3 }
        slm := { s.slm with
          lastSense := s.spe.inForce.sense
          sampleTimer := .running s.config.slipSampleInterval
          state := if s.config.settleTime = 0 then settled else .settling
          settleTimer := if s.config.settleTime = 0 then .stopped else .running s.config.settleTime } }
      exec .frameSent s = .next
        ({ sharing with
            fsc := { s.fsc with routine := s.fsc.routine.map (fun _ => ⟨.sharing, sharing.figures⟩) } : State }).move

/-- The first echo failure of a frame keeps it for one retry. The second drops it: counted, noticed with its number, the own join
count to 0, and class A LINK_MUTE where the run reaches 8 by it (R82, R83, R84, R147). -/
def Obligations.EchoCheckFailed : Prop :=
  ∀ (t : TransmitFrame) (s : State), s.slc.claim = .sending → s.slc.transmit = some t →
    (t.echoFailures = 0 → exec .echoCheckFailed s = .next
      { s with
        slc := { s.slc with claim := .waiting, ownAbort := true, transmit := some { t with echoFailures := 1 } } }) ∧
    (t.echoFailures ≠ 0 →
      let dropped : State := ({ s with
        slc := { s.slc with
          transmit := none
          claim := .none
          ownAbort := true
          framesDropped := min 255 (s.slc.framesDropped + 1)
          echoRun := min 255 (s.slc.echoRun + 1) }
        ssv := { s.ssv with joinCount := 0 } : State }).notify .echoFail (some s.ssv.ownNumber) (t.seq.map BitVec.toNat)
      (s.slc.echoRun ≠ 7 → exec .echoCheckFailed s = .next dropped.move) ∧
      (s.slc.echoRun = 7 → exec .echoCheckFailed s = .next (dropped.classA .linkMute).move))

/-- A link reset seen, at every block: the own frame and the reception discarded, a PENDING drive cancelled, the queues emptied,
the peer table cleared but for the gap counters, the share vector voided, the held command 0, the Slip Monitor OFF and SHARING
left for ANNOUNCING, the join restarted in ANNOUNCING, the clash bar cleared in SAFE, one notice; a void mark still set in IDLE
stays set, which is read out of R7 (log 24) (R87, R156, R103, R67, R7, R41, R120). -/
def Obligations.LinkResetSeen : Prop :=
  ∀ s : State, s.slc.line ≠ .resetting →
    exec .linkResetSeen s = .next
      (({ s with
          slc := { s.slc with
            line := .resetting
            transmit := none
            claim := .none
            received := []
            reception := .idle
            ownAbort := false
            resetDrive := if s.slc.resetDrive = .pending then .none else s.slc.resetDrive }
          ssv := match s.ssv.mode with
            | .unconfigured => s.ssv
            | .announcing => { s.ssv with joinCount := 0 }
            | .sharing => { s.ssv with mode := .announcing, joinCount := 0 }
            | .safe => { s.ssv with clashBar := false }
          fsc := { s.fsc with urgent := [], routine := none }
          ptb :=
            { demand := { state := .none, demand := 0, direction := .forward, gripMode := .normal, lastSeq := none,
                          timer := .stopped }
              peers := s.ptb.peers.map (fun e =>
                { state := .absent, joinCount := 0, lastSeq := none, gaps := e.gaps, health := none, propCap := 0,
                  retCap := 0, weight := 0, axleSpeed := 0, reported := 0, reportedDemandSeq := none,
                  rateLimited := false, slipFlag := false, grip := 16, lastAlertSlip := none, lastFaultCause := none,
                  discordCount := 0, discordant := false, silenceTimer := .stopped }) }
          slm := if s.ssv.mode = .sharing
            then { s.slm with
              state := .off, grip := 16, slipCap := none, baseline := 0, confirmCount := 0, accel := 0, prevRef := none,
              settleTimer := .stopped, sampleTimer := .stopped, gripTimer := .stopped, capTimer := .stopped }
            else s.slm
          spe := { s.spe with vector := none, voidMark := s.spe.voidMark || decide (s.spe.state = .busy) }
          cms := { s.cms with held := 0, motor := 0, rateLimited := false, resultSeq := s.cms.resultSeq + 1 } : State }).notify
        .linkResetSeen none none)

/-- The move into the transmit buffer: with the line FREE, the buffer empty, no reset drive and the station configured, the head
of the urgent queue moves, else the waiting STATUS, and contends, which drives the open mark; otherwise nothing changes (R98, R75,
R99). A DRIVING station that releases the line makes the move where its conditions then hold (R88). -/
def Obligations.MoveIntoTransmitBuffer : Prop :=
  ∀ s : State,
    (s.slc.line = .free → s.slc.transmit = none → s.slc.resetDrive = .none → s.ssv.mode ≠ .unconfigured →
      (∀ f fs, s.fsc.urgent = f :: fs → s.move =
        { s with
          fsc := { s.fsc with urgent := fs }
          slc := { s.slc with transmit := some ⟨.urgent f, none, none, 0⟩, claim := .contending } } ∧
        s.move.drive = .openMark) ∧
      (∀ f, s.fsc.urgent = [] → s.fsc.routine = some f → s.move =
        { s with
          fsc := { s.fsc with routine := none }
          slc := { s.slc with transmit := some ⟨.status f, none, none, 0⟩, claim := .contending } } ∧
        s.move.drive = .openMark)) ∧
    (s.slc.line ≠ .free ∨ s.slc.transmit ≠ none ∨ s.slc.resetDrive ≠ .none ∨ s.ssv.mode = .unconfigured ∨
      (s.fsc.urgent = [] ∧ s.fsc.routine = none) → s.move = s) ∧
    (s.slc.resetDrive = .driving → s.drive = .resetDominant ∧
      exec .resetDriveRelease s = .next ({ s with slc := { s.slc with resetDrive := .none } : State }).move)

/-- The urgent queue: a SLIP ALERT joins at the tail, or in a full queue takes the place of the newest SLIP ALERT; a FAULT removes
every SLIP ALERT and leaves a single FAULT of its cause in a queue that held at most one (R96, R97). -/
def Obligations.UrgentQueue : Prop :=
  (∀ (q : List UrgentFrame) (a : SlipAlert), q.length < 4 → queueAlert q a = q ++ [.slipAlert a]) ∧
  (∀ (before after : List UrgentFrame) (old a : SlipAlert), 4 ≤ (before ++ .slipAlert old :: after).length →
    (∀ b, UrgentFrame.slipAlert b ∉ after) →
    queueAlert (before ++ .slipAlert old :: after) a = before ++ .slipAlert a :: after) ∧
  (∀ (q : List UrgentFrame) (a : SlipAlert), q.length ≤ 4 →
    (queueAlert q a).length ≤ 4 ∧ faultCount (queueAlert q a) = faultCount q) ∧
  ∀ (q : List UrgentFrame) (c : FaultCause), faultCount q ≤ 1 → queueFault q c = [.fault c]

/-! ## Frames received -/

/-- A good DEMAND from station 0 is clamped and accepted, unless it bears the last sequence number; out of STALE it queues
DEMAND_RESUMED; one from another sender or with an undefined code is misplaced; in UNCONFIGURED every DEMAND is discarded
(R44, R45, R46, R80). -/
def Obligations.DemandReceived : Prop :=
  ∀ (h : FrameHeader) (p : DemandPayload) (s : State),
    s.slc.line = .frame → s.slc.reception = .receiving → s.slc.claim ≠ .sending →
    let heard : State := { s with slc := { s.slc with received := [], reception := .ended true, ownAbort := false } }
    (s.ssv.mode = .unconfigured → exec (.demandFrame h p) s = .next heard) ∧
    (s.ssv.mode ≠ .unconfigured → h.sender ≠ 0 ∨ 1 < p.direction.toNat ∨ 1 < p.gripMode.toNat →
      exec (.demandFrame h p) s = .next
        { heard with slc := { heard.slc with misplaced := min 255 (s.slc.misplaced + 1) } }) ∧
    (s.ssv.mode ≠ .unconfigured → h.sender = 0 → p.direction.toNat ≤ 1 → p.gripMode.toNat ≤ 1 →
      (s.ptb.demand.lastSeq = some h.seq → exec (.demandFrame h p) s = .next heard) ∧
      (s.ptb.demand.lastSeq ≠ some h.seq →
        let accepted : State := { heard with
          ptb := { s.ptb with
            demand :=
              { state := .fresh
                demand := max (-16000) (min p.demand.toInt 16000)
                direction := if p.direction = 0 then .forward else .reverse
                gripMode := if p.gripMode = 0 then .normal else .lowGrip
                lastSeq := some h.seq
                timer := .running s.config.demandTimeout } } }
        exec (.demandFrame h p) s = .next
          (if s.ptb.demand.state = .stale then accepted.notify .demandResumed (some 0) (some h.seq.toNat)
           else accepted)))

/-- A good STATUS, SLIP ALERT or FAULT bearing the own number is a class A CLASH and is not applied; one from station 0 or from a
sender above 7, or with an undefined code, is misplaced; in UNCONFIGURED each is discarded (R44, R45, R80, R81). -/
def Obligations.FramesNotApplied : Prop :=
  ∀ (h : FrameHeader) (c : Instr) (s : State),
    s.slc.line = .frame → s.slc.reception = .receiving → s.slc.claim ≠ .sending →
    (∃ p, c = .statusFrame h p) ∨ (∃ p, c = .slipAlertFrame h p) ∨ (∃ p, c = .faultFrame h p) →
    let heard : State := { s with slc := { s.slc with received := [], reception := .ended true, ownAbort := false } }
    (s.ssv.mode = .unconfigured → exec c s = .next heard) ∧
    (s.ssv.mode ≠ .unconfigured → h.sender.toNat = s.ssv.ownNumber.val → exec c s = .next (heard.classA .clash)) ∧
    (s.ssv.mode ≠ .unconfigured → h.sender.toNat ≠ s.ssv.ownNumber.val →
      (h.sender = 0 ∨ 8 ≤ h.sender.toNat ∨ (∃ p, c = .statusFrame h p ∧ p.health = 3) ∨
        (∃ p, c = .slipAlertFrame h p ∧ (p.sense = 0 ∨ 3 ≤ p.sense.toNat)) ∨
        (∃ p, c = .faultFrame h p ∧ (p.cause = 0 ∨ 5 ≤ p.cause.toNat))) →
      exec c s = .next { heard with slc := { heard.slc with misplaced := min 255 (s.slc.misplaced + 1) } })

/-- A good STATUS of a peer changes that peer's entry alone: its fields clamped and stored, its transition taken, then its discord
check. PEER_JOINED, PEER_WITHDRAWN and PEER_DISCORD are queued as their changes raise them (R51 to R57, R61, R62, R64). -/
def Obligations.StatusReceived : Prop :=
  ∀ (h : FrameHeader) (p : StatusPayload) (n : StationNumber) (health : Health) (s : State),
    s.slc.line = .frame → s.slc.reception = .receiving → s.slc.claim ≠ .sending →
    s.ssv.mode ≠ .unconfigured → h.sender.toNat = n.val → n ≠ 0 → n ≠ s.ssv.ownNumber → p.health.toNat = health.code →
    let content : StatusContent :=
      { health := health
        propCap := min p.propCap.toNat 8000
        retCap := min p.retCap.toNat 8000
        weight := min p.weight.toNat 1000
        axleSpeed := p.axleSpeed.toNat
        reported := max (-8000) (min p.held.toInt 8000)
        demandSeq := if p.noDemand then none else some p.demandSeq
        rateLimited := p.rateLimited
        slipActive := p.slipActive
        grip := max 4 (min p.grip.toNat 16) }
    let before := s.ptb.entry n
    let moved := before.applyStatus h.seq content s.config.silenceTimeout
    let difference := discordDifference before moved s.spe.vector n content
    let after := moved.checkDiscord difference s.config.discordBand
    let stored : State := { s with
      slc := { s.slc with received := [], reception := .ended true, ownAbort := false }
      ptb := { s.ptb with peers := s.ptb.peers.set n.val after } }
    exec (.statusFrame h p) s = .next
      (if before.state = .joining ∧ moved.state = .live then stored.notify .peerJoined (some n) none
       else if before.state = .live ∧ moved.state = .withdrawn then stored.notify .peerWithdrawn (some n) none
       else if moved.discordant = false ∧ after.discordant = true then
         stored.notify .peerDiscord (some n) difference
       else stored)

/-- What an applied STATUS does to an entry but its discord check: the silence timer restarted, the gap counted where the number
does not follow the last one, the fields stored, and the transition by health, state and sequence (R51 to R57). -/
def Obligations.StatusTransitions : Prop :=
  ∀ (e : PeerEntry) (seq : Seq) (c : StatusContent) (timeout : Nat),
    let t := e.applyStatus seq c timeout
    let outOfSequence : Prop := ∃ last, e.lastSeq = some last ∧ seq ≠ last + 1
    t.silenceTimer = .running timeout ∧ t.lastSeq = some seq ∧
    (outOfSequence → t.gaps = min 255 (e.gaps + 1)) ∧ (¬outOfSequence → t.gaps = e.gaps) ∧
    t.health = some c.health ∧ t.propCap = c.propCap ∧ t.retCap = c.retCap ∧ t.weight = c.weight ∧
    t.axleSpeed = c.axleSpeed ∧ t.reported = c.reported ∧ t.reportedDemandSeq = c.demandSeq ∧
    t.rateLimited = c.rateLimited ∧ t.slipFlag = c.slipActive ∧ t.grip = c.grip ∧
    (c.health = .withdrawn → t.state = .withdrawn ∧ t.joinCount = 0 ∧ t.discordCount = 0 ∧ t.discordant = false ∧
      t.lastAlertSlip = e.lastAlertSlip ∧ t.lastFaultCause = e.lastFaultCause) ∧
    (c.health ≠ .withdrawn → e.state = .absent ∨ e.state = .silent ∨ e.state = .withdrawn →
      t.state = .joining ∧ t.joinCount = 1 ∧ t.lastAlertSlip = none ∧ t.lastFaultCause = none) ∧
    (c.health ≠ .withdrawn → e.state = .joining →
      t.discordCount = e.discordCount ∧ t.discordant = e.discordant ∧
      t.lastAlertSlip = e.lastAlertSlip ∧ t.lastFaultCause = e.lastFaultCause ∧
      ((∀ last, e.lastSeq = some last → seq = last + 1) → e.lastSeq ≠ none →
        (e.joinCount ≤ 1 → t.state = .joining ∧ t.joinCount = e.joinCount + 1) ∧
        (e.joinCount = 2 → t.state = .live ∧ t.joinCount = 3)) ∧
      (outOfSequence → t.state = .joining ∧ t.joinCount = 1)) ∧
    (e.state = .live → t.lastAlertSlip = e.lastAlertSlip ∧ t.lastFaultCause = e.lastFaultCause ∧
      (c.health = .sharing → t.state = .live ∧ t.joinCount = e.joinCount ∧ t.discordCount = e.discordCount ∧
        t.discordant = e.discordant) ∧
      (c.health = .joining → t.state = .joining ∧ t.joinCount = 1 ∧ t.discordCount = 0 ∧ t.discordant = false))

/-- The discord check: made of an unmarked entry LIVE before and after a STATUS that is not rate-limited and names the demand
sequence of a stored vector with an unfixed entry for the sender. A difference above the band counts, the fourth in a row marks
the entry, one within the band returns the count to 0; in every other case the entry is left as it is (R61, R62, R24). -/
def Obligations.DiscordCheck : Prop :=
  ∀ (before e : PeerEntry) (v : Option ShareVector) (n : StationNumber) (c : StatusContent) (band : Nat),
    let result := e.checkDiscord (discordDifference before e v n c) band
    (∀ w share, v = some w → entryOf w.entries n = some share → share.isFixed = false →
      (∃ q, c.demandSeq = some q ∧ w.seqUsed = some q) → before.state = .live → e.state = .live →
      e.discordant = false → c.rateLimited = false →
      ((c.reported - share.share).natAbs ≤ band → result = { e with discordCount := 0 }) ∧
      (band < (c.reported - share.share).natAbs →
        result = { e with discordCount := e.discordCount + 1, discordant := decide (3 ≤ e.discordCount) })) ∧
    (v = none ∨ (∃ w, v = some w ∧ entryOf w.entries n = none) ∨
      (∃ w share, v = some w ∧ entryOf w.entries n = some share ∧ share.isFixed = true) ∨
      c.demandSeq = none ∨ (∃ w, v = some w ∧ c.demandSeq ≠ w.seqUsed) ∨ before.state ≠ .live ∨ e.state ≠ .live ∨
      e.discordant = true ∨ c.rateLimited = true → result = e)

/-- A good SLIP ALERT of a peer stores its cap, weight and slip and sets the slip flag, and in ABSENT is only taken into the
sequence; a good FAULT of a peer makes its entry WITHDRAWN with its cause, and queues PEER_WITHDRAWN from LIVE. Each changes
that peer's entry alone (R51, R58, R59). -/
def Obligations.AlertsAndFaultsReceived : Prop :=
  ∀ (h : FrameHeader) (n : StationNumber) (s : State),
    s.slc.line = .frame → s.slc.reception = .receiving → s.slc.claim ≠ .sending →
    s.ssv.mode ≠ .unconfigured → h.sender.toNat = n.val → n ≠ 0 → n ≠ s.ssv.ownNumber →
    let before := s.ptb.entry n
    let heard := { before with
      silenceTimer := .running s.config.silenceTimeout
      lastSeq := some h.seq
      gaps := match before.lastSeq with
        | some last => if h.seq = last + 1 then before.gaps else min 255 (before.gaps + 1)
        | none => before.gaps }
    let stored (e : PeerEntry) : State := { s with
      slc := { s.slc with received := [], reception := .ended true, ownAbort := false }
      ptb := { s.ptb with peers := s.ptb.peers.set n.val e } }
    (∀ p : SlipAlertPayload, p.sense = 1 ∨ p.sense = 2 →
      (before.state = .absent → exec (.slipAlertFrame h p) s = .next (stored heard)) ∧
      (before.state ≠ .absent → exec (.slipAlertFrame h p) s = .next (stored { heard with
        propCap := if p.sense = 1 then min p.newCap.toNat 8000 else before.propCap
        retCap := if p.sense = 2 then min p.newCap.toNat 8000 else before.retCap
        weight := min p.newWeight.toNat 1000
        lastAlertSlip := some (min p.slip.toNat 1000)
        slipFlag := true }))) ∧
    ∀ (p : FaultPayload) (cause : FaultCause), p.cause.toNat = cause.code →
      let withdrawn := stored { heard with
        state := .withdrawn, joinCount := 0, discordCount := 0, discordant := false, lastFaultCause := some cause }
      exec (.faultFrame h p) s = .next
        (if before.state = .live then withdrawn.notify .peerWithdrawn (some n) (some cause.code) else withdrawn)

/-- DEMAND_TIMER_EXPIRY makes a FRESH record STALE with its notice; SILENCE_TIMER_EXPIRY makes a JOINING or LIVE entry SILENT, with
PEER_SILENT from LIVE, and in any other state stops the timer alone (R47, R60, R56). -/
def Obligations.TableTimers : Prop :=
  (∀ (ms : Nat) (q : Seq) (s : State), s.ptb.demand.timer = .running ms → s.ptb.demand.state = .fresh →
    s.ptb.demand.lastSeq = some q →
    exec .demandTimerExpiry s = .next
      (({ s with ptb := { s.ptb with demand := { s.ptb.demand with state := .stale, timer := .stopped } } : State }).notify
        .demandStale (some 0) (some q.toNat))) ∧
  ∀ (n : StationNumber) (ms : Nat) (s : State), (s.ptb.entry n).silenceTimer = .running ms →
    let silent : State := { s with
      ptb := { s.ptb with
        peers := s.ptb.peers.set n.val { s.ptb.entry n with
          state := .silent, joinCount := 0, discordCount := 0, discordant := false, silenceTimer := .stopped } } }
    ((s.ptb.entry n).state = .live →
      exec (.silenceTimerExpiry n) s = .next (silent.notify .peerSilent (some n) none)) ∧
    ((s.ptb.entry n).state = .joining → exec (.silenceTimerExpiry n) s = .next silent) ∧
    ((s.ptb.entry n).state ≠ .live → (s.ptb.entry n).state ≠ .joining →
      exec (.silenceTimerExpiry n) s = .next
        { s with
          ptb := { s.ptb with
            peers := s.ptb.peers.set n.val { s.ptb.entry n with silenceTimer := .stopped } } })

/-- PUBLISH_TIMER_EXPIRY restarts the timer and puts a STATUS read from its owners into the routine slot, in the place of any
waiting there; the published cap of a sense is the own wheel cap, or a lesser slip cap of that sense (R91, R92, R93, R94, R98). -/
def Obligations.PublishTimerExpires : Prop :=
  ∀ (ms : Nat) (s : State), s.fsc.publishTimer = .running ms → s.ssv.mode ≠ .unconfigured →
    exec .publishTimerExpiry s = .next
      ({ s with
          fsc := { s.fsc with
            publishTimer := .running s.config.publishPeriod
            routine := some {
              health := match s.ssv.mode with
                | .sharing => .sharing
                | .safe => .withdrawn
                | _ => .joining
              figures := {
                rateLimited := s.cms.rateLimited
                slipActive := decide (s.slm.state = .recovering)
                propCap := match s.slm.slipCap with
                  | some ⟨m, .propulsive⟩ => min s.spe.ownCaps.prop m
                  | _ => s.spe.ownCaps.prop
                retCap := match s.slm.slipCap with
                  | some ⟨m, .retarding⟩ => min s.spe.ownCaps.ret m
                  | _ => s.spe.ownCaps.ret
                weight := s.spe.ownWeight
                axleSpeed := s.wcu.axleSpeed
                held := s.cms.held
                demandSeq := s.spe.inForce.seqUsed
                grip := s.slm.grip } } } : State }).move

/-! ## The division -/

/-- A completion: the results stored, the vector only where the void mark is clear; the Command Stage moved; a change of the sag
state noticed with its voltage; a waiting MEASURE taken to start the next computation, else IDLE (R23, R25, R7, R28, R29, R3,
R4). -/
def Obligations.CompletionStoresAndChains : Prop :=
  ∀ (sn : Snapshot) (s : State), s.spe.state = .busy → s.spe.snapshot = some sn →
    let r := compute s.config s.ssv.ownNumber sn s.spe.inForce s.slm.slipCap
    let stored : State := { s with
      spe := { s.spe with
        state := .idle
        inForce := r.inForce
        ownWeight := r.ownWeight
        ownCaps := r.ownCaps
        vector := if s.spe.voidMark then none else some r.vector }
      cms := s.cms.complete s.config
        { share := r.ownShare, caps := r.ownCaps, dEff := r.inForce.dEff, sense := r.inForce.sense,
          gripMode := r.inForce.gripMode, voltage := sn.measure.voltage, mode := s.ssv.mode, slipCap := s.slm.slipCap } }
    let noticed : State :=
      if s.cms.sag = .clear ∧ sn.measure.voltage < s.config.sagThreshold then
        ({ stored with lpt := { s.lpt with sagSeen := true } : State }).notify .sagEntered none (some sn.measure.voltage)
      else if s.cms.sag = .inSag ∧ s.config.sagThreshold + 10 ≤ sn.measure.voltage then
        stored.notify .sagLeft none (some sn.measure.voltage)
      else stored
    (s.lpt.holding = none → exec .computationCompletion s = .next noticed) ∧
    ∀ m, s.lpt.holding = some m → exec .computationCompletion s = .next
      { noticed with
        spe := { noticed.spe with
          state := .busy
          voidMark := false
          snapshot := some {
            measure := m
            demandState := s.ptb.demand.state
            demand := s.ptb.demand.demand
            direction := s.ptb.demand.direction
            gripMode := s.ptb.demand.gripMode
            lastSeq := s.ptb.demand.lastSeq
            peers := s.ptb.copies s.ssv.ownNumber
            grip := s.slm.grip
            accel := s.slm.accel
            mode := s.ssv.mode } }
        lpt := { noticed.lpt with holding := none } }

/-- R8: from a FRESH record the completion stores the record's demand as D_eff, within -16000..+16000 as accepted, and the
record's direction, grip mode and last sequence number. -/
def Obligations.FreshDemandInForce : Prop :=
  (∀ (h : FrameHeader) (p : DemandPayload) (c : DemandContent), screenDemand h p = some c → c.demand.natAbs ≤ 16000) ∧
  ∀ (sn : Snapshot) (s : State), s.spe.state = .busy → s.spe.snapshot = some sn → sn.demandState = .fresh →
    ∃ t, exec .computationCompletion s = .next t ∧
      t.spe.inForce.dEff = sn.demand ∧ t.spe.inForce.direction = sn.direction ∧ t.spe.inForce.gripMode = sn.gripMode ∧
      t.spe.inForce.seqUsed = sn.lastSeq

/-- From a STALE record D_eff moves toward 0 by at most the decay step and keeps its sign, and the record's companions are taken;
from NONE it is 0 going FORWARD in NORMAL with no sequence; the sense is always that of D_eff and the direction (R9, R10,
R11). -/
def Obligations.StaleAndAbsentDemandInForce : Prop :=
  ∀ (sn : Snapshot) (s : State), s.spe.state = .busy → s.spe.snapshot = some sn →
    ∃ t, exec .computationCompletion s = .next t ∧
      (t.spe.inForce.dEff = 0 → t.spe.inForce.sense = .none) ∧
      (t.spe.inForce.dEff ≠ 0 → (t.spe.inForce.sense = .propulsive ↔
        (0 < t.spe.inForce.dEff ↔ t.spe.inForce.direction = .forward))) ∧
      (t.spe.inForce.dEff ≠ 0 → t.spe.inForce.sense ≠ .none) ∧
      (sn.demandState = .none → t.spe.inForce = ⟨0, .none, .forward, .normal, none⟩) ∧
      (sn.demandState = .stale →
        let step := match sn.gripMode with
          | .normal => s.config.rampLimit
          | .lowGrip => max 5 (s.config.rampLimit / 2)
        t.spe.inForce.direction = sn.direction ∧ t.spe.inForce.gripMode = sn.gripMode ∧
        t.spe.inForce.seqUsed = sn.lastSeq ∧
        t.spe.inForce.dEff.natAbs = s.spe.inForce.dEff.natAbs - step ∧
        (t.spe.inForce.dEff ≠ 0 → (t.spe.inForce.dEff < 0 ↔ s.spe.inForce.dEff < 0)))

/-- R12: every completion computes both own wheel caps as min(8000, floor(T × G / 640)), stores them, and hands them to the
Command Stage as the caps in force; 0 available torque gives a cap of 0. -/
def Obligations.OwnWheelCaps : Prop :=
  ∀ (sn : Snapshot) (s : State), s.spe.state = .busy → s.spe.snapshot = some sn →
    ∃ t, exec .computationCompletion s = .next t ∧
      t.spe.ownCaps.prop = min 8000 (sn.measure.availProp * s.config.gearRatio / 640) ∧
      t.spe.ownCaps.ret = min 8000 (sn.measure.availRet * s.config.gearRatio / 640) ∧
      t.cms.caps = t.spe.ownCaps ∧
      (sn.measure.availProp = 0 → t.spe.ownCaps.prop = 0) ∧ (sn.measure.availRet = 0 → t.spe.ownCaps.ret = 0)

/-- R13: every completion stores the own weight floor(L_eff × g / 16), with L_eff the static load and the load transfer of the
computation's direction, clamped to 0..1000; it lies within 0..1000 for every legal grip, is L_eff at full grip and a quarter of
it at the least; the load transfer is at most 2000 for every legal coefficient and acceleration. -/
def Obligations.OwnWeight : Prop :=
  (∀ (sn : Snapshot) (s : State), s.spe.state = .busy → s.spe.snapshot = some sn →
    ∃ t, exec .computationCompletion s = .next t ∧
      let shift := (s.config.loadTransfer * sn.accel).tdiv 1000
      let load := max 0 (min ((sn.measure.load : Int) + (if t.spe.inForce.direction = .reverse then -shift else shift)) 1000)
      (t.spe.ownWeight : Int) = load * sn.grip / 16 ∧
      (4 ≤ sn.grip ∧ sn.grip ≤ 16 → t.spe.ownWeight ≤ 1000) ∧
      (sn.grip = 16 → (t.spe.ownWeight : Int) = load) ∧
      (sn.grip = 4 → (t.spe.ownWeight : Int) = load / 4)) ∧
  ∀ k a : Int, k.natAbs ≤ 100 → a.natAbs ≤ 20000 → ((k * a).tdiv 1000).natAbs ≤ 2000

/-- The peers a snapshot copies are exactly those LIVE with last health SHARING, each once. The participants of a division: self
where the snapshot was taken in SHARING, and every copied peer; each with its cap for the sense and its weight, self's cap
lowered by a slip cap of that sense. Both go in order of station number (R4, R15, R16, R18). -/
def Obligations.Participants : Prop :=
  (∀ (t : PeerTable) (own : StationNumber),
    (t.copies own).Pairwise (fun a b => a.number < b.number) ∧
    ∀ c : PeerCopy, c ∈ t.copies own ↔
      c.number ≠ 0 ∧ c.number ≠ own ∧ (t.entry c.number).state = .live ∧ (t.entry c.number).health = some .sharing ∧
      c.propCap = (t.entry c.number).propCap ∧ c.retCap = (t.entry c.number).retCap ∧
      c.weight = (t.entry c.number).weight ∧ c.reported = (t.entry c.number).reported ∧
      c.discordant = (t.entry c.number).discordant) ∧
  ∀ (c : Setup) (own : StationNumber) (sn : Snapshot) (before : DemandInForce) (slipCap : Option SlipCap),
    sn.peers.Pairwise (fun a b => a.number < b.number) → (∀ p ∈ sn.peers, p.number ≠ own) →
    let r := compute c own sn before slipCap
    let capOf (caps : Caps) : Nat := match r.inForce.sense with
      | .propulsive => caps.prop
      | .retarding => caps.ret
      | .none => 0
    let self : Participant :=
      { number := own
        cap := match slipCap with
          | some k => if k.sense = r.inForce.sense then min (capOf r.ownCaps) k.magnitude else capOf r.ownCaps
          | none => capOf r.ownCaps
        weight := r.ownWeight, reported := 0, discordant := false }
    let ps := participants sn r.inForce.sense self
    ps.Pairwise (fun a b => a.number < b.number) ∧
    (∀ p, p ∈ ps ↔ (sn.mode = .sharing ∧ p = self) ∨ ∃ q ∈ sn.peers, p =
      ⟨q.number, capOf ⟨q.propCap, q.retCap⟩, q.weight, q.reported, q.discordant⟩) ∧
    r.vector.entries = (divide r.inForce.dEff r.inForce.sense ps).entries ∧
    r.vector.shortfall = (divide r.inForce.dEff r.inForce.sense ps).shortfall ∧
    r.vector.dEff = r.inForce.dEff ∧ r.vector.sense = r.inForce.sense ∧ r.vector.seqUsed = r.inForce.seqUsed ∧
    (sn.mode ≠ .sharing → r.ownShare = 0) ∧
    (sn.mode = .sharing → ∃ e ∈ r.vector.entries, e.number = own ∧ r.ownShare = e.share)

/-- A division carries the demand as far as its participants' caps allow: one entry for each participant in order, every share
within its participant's cap and of the sign of D_eff, the fixed shares the discordant reports within their caps, the others
summing exactly to the lesser of the remainder and their caps, and the rest the shortfall. A division without a sense or without
participants is empty: every share and the shortfall 0, whatever the demand (R17 to R22). -/
def Obligations.DivisionCarriesDemand : Prop :=
  ∀ (dEff : Int) (sense : Sense) (ps : List Participant), ps.Pairwise (fun a b => a.number < b.number) →
    let d := divide dEff sense ps
    let contributed (p : Participant) : Nat :=
      if p.reported ≠ 0 ∧ (p.reported < 0 ↔ dEff < 0) then min p.reported.natAbs p.cap else 0
    let remainder := dEff.natAbs - ((ps.filter (·.discordant)).map contributed).sum
    let openCaps := ((ps.filter (fun p => !p.discordant)).map (·.cap)).sum
    d.entries.map (·.number) = ps.map (·.number) ∧
    (sense = .none ∨ ps = [] → (∀ e ∈ d.entries, e.share = 0 ∧ e.isFixed = false) ∧ d.shortfall = 0) ∧
    (sense ≠ .none → ps ≠ [] →
      (∀ p ∈ ps, ∃ e ∈ d.entries, e.number = p.number ∧ e.isFixed = p.discordant ∧ e.share.natAbs ≤ p.cap ∧
        (e.share ≠ 0 → (e.share < 0 ↔ dEff < 0)) ∧ (p.discordant = true → e.share.natAbs = contributed p)) ∧
      ((d.entries.filter (fun e => !e.isFixed)).map (·.share.natAbs)).sum = min remainder openCaps ∧
      d.shortfall = remainder - openCaps)

/-- One pass of the water-fill. Where the open caps do not exceed the remainder, each member takes its cap and the rest is the
shortfall. Else, where some targets reach their caps, those members take their caps and leave, some member stays, and the fill goes
on with the others and the remainder less those caps. Where none does, each member takes its target, and the residual, smaller than
their number, goes in order of decreasing weight, the lower station number first, to each as far as its headroom allows (R19, R20,
R21). -/
def Obligations.WaterFillPass : Prop :=
  ∀ (ps : List Participant) (m : Nat), ps.Pairwise (fun a b => a.number < b.number) →
    let goal (p : Participant) : Nat :=
      if 0 < (ps.map (·.weight)).sum then m * p.weight / (ps.map (·.weight)).sum else m / ps.length
    let f := waterFill ps.length ps m
    let full := ps.filter (fun p => decide (p.cap ≤ goal p))
    let rest := ps.filter (fun p => decide (goal p < p.cap))
    ((ps.map (·.cap)).sum ≤ m →
      f.shortfall = m - (ps.map (·.cap)).sum ∧ ∀ p ∈ ps, shareOf f.shares p.number = p.cap) ∧
    (m < (ps.map (·.cap)).sum → full ≠ [] →
      let next := waterFill rest.length rest (m - (full.map (·.cap)).sum)
      rest ≠ [] ∧ (full.map (·.cap)).sum ≤ m ∧ f.shortfall = next.shortfall ∧
      (∀ p ∈ full, shareOf f.shares p.number = p.cap) ∧
      ∀ p ∈ rest, shareOf f.shares p.number = shareOf next.shares p.number) ∧
    (m < (ps.map (·.cap)).sum → full = [] →
      let residual := m - (ps.map goal).sum
      let before (p : Participant) : List Participant :=
        ps.filter (fun q => decide (p.weight < q.weight ∨ (q.weight = p.weight ∧ q.number < p.number)))
      f.shortfall = 0 ∧ residual < ps.length ∧
      (ps.map (fun p => shareOf f.shares p.number)).sum = m ∧
      ∀ p ∈ ps, shareOf f.shares p.number =
        goal p + min (residual - ((before p).map (fun q => q.cap - goal q)).sum) (p.cap - goal p))

/-! ## The held command -/

/-- A completion at the Command Stage: the caps, sense and grip mode in force replaced, the sag state moved with its 10 V of
hysteresis; the held command 0 out of SHARING or without a sense, else through zero, by one ramp step toward the own share, and
within the effective cap; the motor command its conversion, the result sequence one higher. The effective cap is the least of
the cap in force for the sense, a slip cap of that sense, and in sag the sag cap for a propulsive sense; 0 without a sense (R25,
R27, R28, R30 to R36, R42). -/
def Obligations.CommandStageCompletes : Prop :=
  (∀ (c : CommandStage) (cfg : Setup) (h : HandOff),
    let t := c.complete cfg h
    let cap := t.effectiveCap h.slipCap cfg.sagCap
    let step := match h.gripMode with
      | .normal => cfg.rampLimit
      | .lowGrip => max 5 (cfg.rampLimit / 2)
    let start := if c.held ≠ 0 ∧ ¬(c.held < 0 ↔ h.dEff < 0) then 0 else c.held
    t.caps = h.caps ∧ t.sense = h.sense ∧ t.gripMode = h.gripMode ∧ t.resultSeq = c.resultSeq + 1 ∧
    t.motor = motorOf cfg.gearRatio t.held ∧
    (c.sag = .clear → (t.sag = .inSag ↔ h.voltage < cfg.sagThreshold)) ∧
    (c.sag = .inSag → (t.sag = .clear ↔ cfg.sagThreshold + 10 ≤ h.voltage)) ∧
    (h.mode ≠ .sharing ∨ h.sense = .none → t.held = 0 ∧ t.rateLimited = false) ∧
    (h.mode = .sharing → h.sense ≠ .none → ∃ ramped : Int,
      ((h.share - start).natAbs ≤ step → ramped = h.share) ∧
      (step < (h.share - start).natAbs →
        ramped = if start < h.share then start + step else start - step) ∧
      t.held.natAbs = min ramped.natAbs cap ∧ (t.held ≠ 0 → (t.held < 0 ↔ ramped < 0)) ∧
      (t.rateLimited = true ↔ ramped ≠ h.share ∧ ramped.natAbs < cap))) ∧
  ∀ (c : CommandStage) (slipCap : Option SlipCap) (sagCap : Nat),
    (c.sense = .none → c.effectiveCap slipCap sagCap = 0) ∧
    (c.sense ≠ .none → ∀ n : Nat, n ≤ c.effectiveCap slipCap sagCap ↔
      (c.sense = .propulsive → n ≤ c.caps.prop) ∧ (c.sense = .retarding → n ≤ c.caps.ret) ∧
      (∀ k, slipCap = some k → k.sense = c.sense → n ≤ k.magnitude) ∧
      (c.sag = .inSag → c.sense = .propulsive → n ≤ sagCap))

/-- The motor command is held × 640 / G rounded half away from zero, within 10000, of the held command's sign, and never above the
available motor torque whose wheel cap the held command keeps within (R37, R12). -/
def Obligations.MotorCommand : Prop :=
  ∀ (g : Nat) (held : Int), 0 < g →
    motorOf g 0 = 0 ∧ (motorOf g held).natAbs ≤ 10000 ∧
    (motorOf g held ≠ 0 → (motorOf g held < 0 ↔ held < 0)) ∧
    (held.natAbs * 640 ≤ 10000 * g →
      2 * ((motorOf g held).natAbs * g) ≤ 2 * (held.natAbs * 640) + g ∧
      2 * (held.natAbs * 640) < 2 * ((motorOf g held).natAbs * g) + g) ∧
    (10000 * g ≤ held.natAbs * 640 → (motorOf g held).natAbs = 10000) ∧
    ∀ torque : Nat, held.natAbs ≤ wheelCap g torque → (motorOf g held).natAbs ≤ torque

/-! ## The tooth wheels -/

/-- TOOTH_EDGE on an enabled channel: a first edge sets the last edge time; an edge short of the minimum tooth period is rejected
and counted; any other is accepted, its period joins the ring of four, and the channel speed and the axle speed follow. On a
disabled channel nothing changes. STOP_TIMER_EXPIRY: the channel stops and forgets its edges, and the axle speed is recomputed.
That the timebase reading arrives with the edge and is kept is the model's choice (R105, R107 to R114; log 5). -/
def Obligations.WheelEvents : Prop :=
  (∀ (ch : Channel) (time : TimeStamp) (s : State),
    let c := match ch with | .a => s.wcu.chA | .b => s.wcu.chB
    let withChannel (d : WheelChannel) (axle : Nat) : State := { s with
      timebase := time
      wcu := match ch with
        | .a => { chA := d, chB := s.wcu.chB, axleSpeed := axle }
        | .b => { chA := s.wcu.chA, chB := d, axleSpeed := axle } }
    (c.enabled = false → exec (.toothEdge ch time) s = .next s) ∧
    (c.enabled = true → c.lastEdge = none → exec (.toothEdge ch time) s = .next
      (withChannel { c with lastEdge := some time, stopTimer := .running 250 } s.wcu.axleSpeed)) ∧
    ∀ last, c.enabled = true → c.lastEdge = some last →
      let period := (time - last).toNat
      (period < s.config.minToothPeriod → exec (.toothEdge ch time) s = .next
        (withChannel { c with rejected := min 255 (c.rejected + 1) } s.wcu.axleSpeed)) ∧
      (s.config.minToothPeriod ≤ period →
        let ring := (if c.ring.length < 4 then c.ring else c.ring.drop 1) ++ [period]
        let d : WheelChannel := { c with
          lastEdge := some time
          ring := ring
          speed := min (s.config.circumference * 1000000 * ring.length / (s.config.teeth * ring.sum)) 65535
          stopTimer := .running 250 }
        exec (.toothEdge ch time) s = .next (withChannel d (match ch with
          | .a => if s.wcu.chB.enabled then (d.speed + s.wcu.chB.speed) / 2 else d.speed
          | .b => if s.wcu.chA.enabled then (s.wcu.chA.speed + d.speed) / 2 else d.speed)))) ∧
  ∀ (ms : Nat) (s : State),
    (s.wcu.chA.stopTimer = .running ms → exec (.stopTimerExpiry .a) s = .next
      { s with
        wcu := { s.wcu with
          chA := { s.wcu.chA with speed := 0, ring := [], lastEdge := none, stopTimer := .stopped }
          axleSpeed := match s.wcu.chA.enabled, s.wcu.chB.enabled with
            | true, true => s.wcu.chB.speed / 2
            | false, true => s.wcu.chB.speed
            | _, false => 0 } }) ∧
    (s.wcu.chB.stopTimer = .running ms → exec (.stopTimerExpiry .b) s = .next
      { s with
        wcu := { s.wcu with
          chB := { s.wcu.chB with speed := 0, ring := [], lastEdge := none, stopTimer := .stopped }
          axleSpeed := match s.wcu.chA.enabled, s.wcu.chB.enabled with
            | true, true => s.wcu.chA.speed / 2
            | true, false => s.wcu.chA.speed
            | false, _ => 0 } })



/-! ## The Slip Monitor -/

/-- The reference speed of a sample: none exactly where no peer is LIVE with last health SHARING; else the greatest axle speed in
RETARDING and the least in the other senses, among those of them whose slip flag is clear, or among all of them where every slip
flag is set (R124, R125). -/
def Obligations.ReferenceSpeed : Prop :=
  ∀ s : State,
    let sharing (n : StationNumber) : Prop :=
      n ≠ 0 ∧ n ≠ s.ssv.ownNumber ∧ (s.ptb.entry n).state = .live ∧ (s.ptb.entry n).health = some .sharing
    let candidate (n : StationNumber) : Prop :=
      sharing n ∧ ((s.ptb.entry n).slipFlag = false ∨ ∀ k, sharing k → (s.ptb.entry k).slipFlag = true)
    (s.reference = none ↔ ∀ n, ¬sharing n) ∧
    ∀ v, s.reference = some v →
      (∃ n, candidate n ∧ (s.ptb.entry n).axleSpeed = v) ∧
      ∀ n, candidate n →
        (s.spe.inForce.sense = .retarding → (s.ptb.entry n).axleSpeed ≤ v) ∧
        (s.spe.inForce.sense ≠ .retarding → v ≤ (s.ptb.entry n).axleSpeed)

/-- R128: a blocked sample judges no slip and learns nothing. It restarts its timer, takes a change of sense and updates the
filtered acceleration (R122, R123, R126); the baseline is as the sense left it, the confirm count 0, CONFIRMING back in WATCHING,
and nothing outside the monitor changes. The blocking conditions are those of R127. -/
def Obligations.BlockedSample : Prop :=
  ∀ (ms : Nat) (s : State), s.slm.sampleTimer = .running ms → s.slm.state ≠ .off →
    let sense := s.spe.inForce.sense
    let sensed : Monitor := if sense = s.slm.lastSense then s.slm
      else { s.slm with
        baseline := 0, confirmCount := 0, slipCap := none, capTimer := .stopped, lastSense := sense
        state := if s.config.settleTime = 0 then (if s.slm.grip = 16 then .watching else .recovering) else .settling
        settleTimer := if s.config.settleTime = 0 then .stopped else .running s.config.settleTime }
    let accel : Int := match s.reference, s.slm.prevRef with
      | some v, some prev =>
        let a := (((v : Int) - prev) * 1000).tdiv s.config.slipSampleInterval
        max (-20000) (min (s.slm.accel + (a - s.slm.accel).tdiv 8) 20000)
      | _, _ => s.slm.accel
    sensed.state = .settling ∨ s.reference = none ∨ sense = .none ∨
      ((s.config.blockingMode = .ramp ∨ s.config.blockingMode = .rampAndLaunch) ∧ s.cms.rateLimited = true) ∨
      ((s.config.blockingMode = .launch ∨ s.config.blockingMode = .rampAndLaunch) ∧
        ∃ v, s.reference = some v ∧ v < s.config.launchSpeed) →
    exec .slipSample s = .next
      { s with
        slm := { sensed with
          sampleTimer := .running s.config.slipSampleInterval
          prevRef := s.reference
          accel := accel
          confirmCount := 0
          state := if sensed.state = .confirming then .watching else sensed.state } }

/-- A sample that is not blocked judges the slip of the own axle against the reference. Within the baseline and the effective
threshold it ends a confirmation and, in WATCHING, the baseline learns; above them it counts, as long as the count stays below
the confirm number. Nothing outside the monitor changes (R122, R123, R126, R127, R129 to R132). -/
def Obligations.JudgedSample : Prop :=
  ∀ (ms v : Nat) (s : State), s.slm.sampleTimer = .running ms → s.slm.state ≠ .off → s.reference = some v →
    let sense := s.spe.inForce.sense
    let sensed : Monitor := if sense = s.slm.lastSense then s.slm
      else { s.slm with
        baseline := 0, confirmCount := 0, slipCap := none, capTimer := .stopped, lastSense := sense
        state := if s.config.settleTime = 0 then (if s.slm.grip = 16 then .watching else .recovering) else .settling
        settleTimer := if s.config.settleTime = 0 then .stopped else .running s.config.settleTime }
    let filtered : Monitor := { sensed with
      sampleTimer := .running s.config.slipSampleInterval
      prevRef := some v
      accel := match s.slm.prevRef with
        | some prev =>
          let a := (((v : Int) - prev) * 1000).tdiv s.config.slipSampleInterval
          max (-20000) (min (s.slm.accel + (a - s.slm.accel).tdiv 8) 20000)
        | none => s.slm.accel }
    sensed.state ≠ .settling → sense ≠ .none →
    ((s.config.blockingMode = .ramp ∨ s.config.blockingMode = .rampAndLaunch) → s.cms.rateLimited = false) →
    ((s.config.blockingMode = .launch ∨ s.config.blockingMode = .rampAndLaunch) → s.config.launchSpeed ≤ v) →
    let slip := min 1000 (1000 * (if sense = .retarding then v - s.wcu.axleSpeed else s.wcu.axleSpeed - v) / max v 500)
    let threshold := match s.spe.inForce.gripMode with
      | .normal => s.config.slipThreshold
      | .lowGrip => max 10 (s.config.slipThreshold / 2)
    (slip ≤ sensed.baseline + threshold → exec .slipSample s = .next
      { s with
        slm := { filtered with
          confirmCount := 0
          state := if sensed.state = .confirming then .watching else sensed.state
          baseline := if sensed.state = .watching
            then ((sensed.baseline : Int) + ((slip : Int) - sensed.baseline).tdiv 16).toNat else sensed.baseline } }) ∧
    (sensed.baseline + threshold < slip → sensed.confirmCount + 1 < s.config.confirmNumber → exec .slipSample s = .next
      { s with
        slm := { filtered with
          confirmCount := sensed.confirmCount + 1
          state := if sensed.state = .watching then .confirming else sensed.state } })

/-- The sample whose slip brings the count to the confirm number takes the slip event, from the monitor as its sense leaves it (a
change of sense at a settle time of 0 begins its count again at this sample): the grip factor halved but not below 4, the slip cap
set with withdraw-on-slip ON and the held command clamped by it, the SLIP ALERT queued with the weight that the lowered grip gives,
the counter, the notice, RECOVERING and its timers; then the move into the transmit buffer (R123, R131 to R136, R14, R38, R98). -/
def Obligations.SlipEvent : Prop :=
  ∀ (ms v : Nat) (s : State), s.slm.sampleTimer = .running ms → s.slm.state ≠ .off → s.reference = some v →
    let sense := s.spe.inForce.sense
    let sensed : Monitor := if sense = s.slm.lastSense then s.slm
      else { s.slm with
        baseline := 0, confirmCount := 0, slipCap := none, capTimer := .stopped, lastSense := sense
        state := if s.config.settleTime = 0 then (if s.slm.grip = 16 then .watching else .recovering) else .settling
        settleTimer := if s.config.settleTime = 0 then .stopped else .running s.config.settleTime }
    sensed.state ≠ .settling → sense ≠ .none →
    ((s.config.blockingMode = .ramp ∨ s.config.blockingMode = .rampAndLaunch) → s.cms.rateLimited = false) →
    ((s.config.blockingMode = .launch ∨ s.config.blockingMode = .rampAndLaunch) → s.config.launchSpeed ≤ v) →
    let slip := min 1000 (1000 * (if sense = .retarding then v - s.wcu.axleSpeed else s.wcu.axleSpeed - v) / max v 500)
    let threshold := match s.spe.inForce.gripMode with
      | .normal => s.config.slipThreshold
      | .lowGrip => max 10 (s.config.slipThreshold / 2)
    sensed.baseline + threshold < slip → s.config.confirmNumber ≤ sensed.confirmCount + 1 →
    let accel : Int := match s.slm.prevRef with
      | some prev =>
        let a := (((v : Int) - prev) * 1000).tdiv s.config.slipSampleInterval
        max (-20000) (min (s.slm.accel + (a - s.slm.accel).tdiv 8) 20000)
      | none => s.slm.accel
    let grip := max 4 (s.slm.grip / 2)
    let magnitude := max s.config.recoveryStep (3 * s.cms.held.natAbs / 4)
    let capInForce := if sense = .propulsive then s.cms.caps.prop else s.cms.caps.ret
    let shift := (s.config.loadTransfer * accel).tdiv 1000
    let staticLoad := match s.spe.snapshot with | some sn => sn.measure.load | none => 0
    let load := max 0
      (min ((staticLoad : Int) + (if s.spe.inForce.direction = .reverse then -shift else shift)) 1000)
    let held := if s.cms.sense = sense then max (-(magnitude : Int)) (min s.cms.held magnitude) else s.cms.held
    let slm : Monitor := { sensed with
      sampleTimer := .running s.config.slipSampleInterval
      prevRef := some v
      accel := accel
      grip := grip
      slipCap := if s.config.withdrawOnSlip then some ⟨magnitude, sense⟩ else sensed.slipCap
      capTimer := if s.config.withdrawOnSlip then .running s.config.recoveryInterval else sensed.capTimer
      slipEvents := min 255 (s.slm.slipEvents + 1)
      confirmCount := 0
      state := .recovering
      gripTimer := .running s.config.recoveryInterval }
    let cms : CommandStage := if s.config.withdrawOnSlip
      then { s.cms with held := held, motor := motorOf s.config.gearRatio held, resultSeq := s.cms.resultSeq + 1 }
      else s.cms
    let alert : SlipAlert :=
      { sense := sense
        newCap := if s.config.withdrawOnSlip then min magnitude capInForce else capInForce
        newWeight := load.toNat * grip / 16
        slip := slip }
    exec .slipSample s = .next
      (({ s with slm := slm, cms := cms, fsc := { s.fsc with urgent := queueAlert s.fsc.urgent alert } : State }).notify
        .slipEvent none (some slip)).move

/-- SETTLE_TIMER_EXPIRY ends SETTLING in WATCHING or RECOVERING; GRIP_RECOVERY_EXPIRY raises the grip factor by one up to 16;
CAP_RECOVERY_EXPIRY raises the slip cap by the recovery step, or lifts it where it reaches the cap in force of its sense. The
one that completes the recovery in RECOVERING brings WATCHING back, with its notice (R121, R137, R138, R139). -/
def Obligations.SettlingAndRecovery : Prop :=
  (∀ (ms : Nat) (s : State), s.slm.settleTimer = .running ms → exec .settleTimerExpiry s = .next
    { s with
      slm := { s.slm with
        settleTimer := .stopped
        state := if s.slm.state ≠ .settling then s.slm.state
          else if s.slm.grip = 16 ∧ s.slm.slipCap = none then .watching else .recovering } }) ∧
  (∀ (ms : Nat) (s : State), s.slm.gripTimer = .running ms →
    let raised : State := { s with
      slm := { s.slm with
        grip := min 16 (s.slm.grip + 1)
        gripTimer := if s.slm.grip < 15 then .running s.config.recoveryInterval else .stopped } }
    (s.slm.state = .recovering → 15 ≤ s.slm.grip → s.slm.slipCap = none → exec .gripRecoveryExpiry s = .next
      (({ raised with slm := { raised.slm with state := .watching, confirmCount := 0 } : State }).notify .slipRecovered none
        none)) ∧
    (s.slm.state ≠ .recovering ∨ s.slm.grip < 15 ∨ s.slm.slipCap ≠ none → exec .gripRecoveryExpiry s = .next raised)) ∧
  ∀ (ms m : Nat) (sense : Sense) (s : State), s.slm.capTimer = .running ms → s.slm.slipCap = some ⟨m, sense⟩ →
    let capInForce := match sense with
      | .propulsive => s.cms.caps.prop
      | .retarding => s.cms.caps.ret
      | .none => 0
    let lifted : State := { s with slm := { s.slm with slipCap := none, capTimer := .stopped } }
    (m + s.config.recoveryStep < capInForce → exec .capRecoveryExpiry s = .next
      { s with
        slm := { s.slm with
          slipCap := some ⟨m + s.config.recoveryStep, sense⟩, capTimer := .running s.config.recoveryInterval } }) ∧
    (capInForce ≤ m + s.config.recoveryStep → s.slm.state = .recovering → s.slm.grip = 16 →
      exec .capRecoveryExpiry s = .next
        (({ lifted with slm := { lifted.slm with state := .watching, confirmCount := 0 } : State }).notify .slipRecovered
          none none)) ∧
    (capInForce ≤ m + s.config.recoveryStep → s.slm.state ≠ .recovering ∨ s.slm.grip ≠ 16 →
      exec .capRecoveryExpiry s = .next lifted)

/-! ## Bytes -/

/-- Records as bytes. Fewer than 48 bytes received are a short exchange; of 48 or more the first 48 are the record, a failed check
byte where they do not sum to 0, else the command of its kind byte, with each field read at the bytes 10.3 gives it and every other
byte ignored. Every well-formed command that is a record, written by 10.3, is 48 bytes that sum to 0 and reads back as itself. Bytes
clocked in an exchange fill the receive record buffer up to 48, and it ends in the command they spell (log 8); bits make up bytes
least significant first (log 26), a partly clocked last byte not counted. Every outgoing record is 48 bytes that sum to 0, with each field of its kind at the bytes 10.3
gives it, absent fields and unused bytes 0, and the codes of 10.4. PSDO carries it least significant bit of each byte first, then
zeros; it is high impedance out of an exchange, for a PCS_N left low by a part reset as the model's choice (log 25) (R158, R159,
R160, R176, R178, R179). -/
def Obligations.RecordsReadBack : Prop :=
  let byte (bs : List Byte) (k : Nat) : Byte := bs.getD (k - 1) 0
  let half (bs : List Byte) (k : Nat) : Half := byte bs (k + 1) ++ byte bs k
  let sum (bs : List Byte) : Nat := (bs.map BitVec.toNat).sum % 256
  (∀ bs : List Byte,
    (∀ k : Fin 48, bs.length = k.val → recordCommand bs = .shortExchange k) ∧
    (48 ≤ bs.length → sum (bs.take 48) ≠ 0 → recordCommand bs = .checkByteFail) ∧
    (48 ≤ bs.length → sum (bs.take 48) = 0 →
      (byte bs 1 = 1 → recordCommand bs = .setup
        { channelCount := byte bs 2, teeth := byte bs 3, circumference := half bs 4, minToothPeriod := half bs 6
          gearRatio := half bs 8, publishPeriod := byte bs 10, silenceTimeout := byte bs 11, demandTimeout := byte bs 12
          measureTimeout := byte bs 13, rampLimit := half bs 14, loadTransfer := byte bs 16
          slipSampleInterval := byte bs 17, slipThreshold := half bs 18, confirmNumber := byte bs 20
          settleTime := half bs 21, blockingMode := byte bs 23, launchSpeed := half bs 24, withdrawOnSlip := byte bs 26
          recoveryInterval := half bs 27, recoveryStep := half bs 29, sagThreshold := half bs 31, sagCap := half bs 33
          discordBand := half bs 35, noticeThreshold := byte bs 37, interimTime := byte bs 38 }) ∧
      (byte bs 1 = 2 → recordCommand bs = .measure
        { seq := byte bs 2, availProp := half bs 3, availRet := half bs 5, voltage := half bs 7, load := half bs 9 }) ∧
      (byte bs 1 = 3 → recordCommand bs = .takeNotice) ∧ (byte bs 1 = 4 → recordCommand bs = .readPeer (byte bs 2)) ∧
      (byte bs 1 = 5 → recordCommand bs = .safeRequest) ∧ (byte bs 1 = 6 → recordCommand bs = .resume) ∧
      (byte bs 1 = 7 → recordCommand bs = .linkResetRequest) ∧ (byte bs 1 = 8 → recordCommand bs = .nop) ∧
      (byte bs 1 = 0 ∨ 8 < (byte bs 1).toNat → recordCommand bs = .unknownRecordKind (byte bs 1)))) ∧
  (∀ (c : Instr) (bs : List Byte), c.wellFormed = true → recordBytes c = some bs →
    bs.length = 48 ∧ sum bs = 0 ∧ recordCommand bs = c) ∧
  (∀ (bs : List Byte) (s : State), s.lpt.inExchange = true → s.lpt.received = [] → s.withRecordBytes bs =
    { s with lpt := { s.lpt with received := bs.take 48 }, pending := recordCommand bs :: s.pending }) ∧
  (∀ (bs : List Byte) (rest : List Bool) (s : State), rest.length < 8 →
    s.withRecordBits (bs.flatMap (fun b => (List.range 8).map b.getLsbD) ++ rest) = s.withRecordBytes bs) ∧
  (∀ r : OutRecord, r.bytes.length = 48 ∧ sum r.bytes = 0) ∧
  (let unusedFrom (r : OutRecord) (k : Nat) : Prop := ∀ i, k ≤ i → i ≤ 47 → byte r.bytes i = 0
   let flags (r : OutRecord) (k : Nat) (bits : List Bool) : Prop := ∀ i, (byte r.bytes k).getLsbD i = bits.getD i false
   (∀ v : StateView, let r := OutRecord.state v
    byte r.bytes 1 = 0x81 ∧ byte r.bytes 2 = .ofNat 8 v.ownNumber.val ∧ byte r.bytes 3 = .ofNat 8 v.mode.code ∧
    byte r.bytes 4 = .ofNat 8 (match v.faultCause with | some c => c.code | none => 0) ∧
    byte r.bytes 5 = .ofNat 8 v.resetCause.code ∧ byte r.bytes 6 = v.resultSeq ∧
    half r.bytes 7 = .ofInt 16 v.held ∧ half r.bytes 9 = .ofInt 16 v.motor ∧
    half r.bytes 11 = .ofNat 16 v.effectiveCap ∧ half r.bytes 13 = .ofInt 16 v.dEff ∧
    byte r.bytes 15 = .ofNat 8 v.sense.code ∧ byte r.bytes 16 = .ofNat 8 v.participants ∧
    half r.bytes 17 = .ofNat 16 v.shortfall ∧ byte r.bytes 19 = .ofNat 8 v.demandState.code ∧
    byte r.bytes 20 = .ofNat 8 v.monitorState.code ∧ byte r.bytes 21 = .ofNat 8 v.grip ∧
    byte r.bytes 22 = .ofNat 8 v.rejectedA ∧ byte r.bytes 23 = .ofNat 8 v.rejectedB ∧
    byte r.bytes 24 = .ofNat 8 v.noticeCount ∧ byte r.bytes 25 = .ofNat 8 v.noticesLost ∧
    byte r.bytes 26 = .ofNat 8 v.overruns ∧
    flags r 27 [v.clashBar, v.rateLimited, v.sagNow, v.sagSeen, v.clamped, v.overrunSeen] ∧ unusedFrom r 28) ∧
   (∀ k : RecordKind, let r := OutRecord.ack k
    byte r.bytes 1 = 0x82 ∧ byte r.bytes 2 = k.code ∧ unusedFrom r 3) ∧
   (∀ (kind : Option Byte) (reason : Reason) (index : Option Nat), let r := OutRecord.refuse kind reason index
    byte r.bytes 1 = 0x83 ∧ flags r 2 [kind.isSome, index.isSome] ∧ byte r.bytes 3 = kind.getD 0 ∧
    byte r.bytes 4 = .ofNat 8 reason.code ∧ byte r.bytes 5 = .ofNat 8 (index.getD 0) ∧ unusedFrom r 6) ∧
   (∀ left : Nat, byte (OutRecord.notice none left).bytes 1 = 0x84 ∧ unusedFrom (.notice none left) 2) ∧
   (∀ (n : Notice) (left : Nat), let r := OutRecord.notice (some n) left
    byte r.bytes 1 = 0x84 ∧ byte r.bytes 2 = .ofNat 8 n.kind.code ∧
    flags r 3 [n.station.isSome, n.value.isSome, true] ∧
    byte r.bytes 4 = .ofNat 8 (match n.station with | some k => k.val | none => 0) ∧
    half r.bytes 5 = .ofNat 16 (n.value.getD 0) ∧ half r.bytes 7 = n.time ∧
    byte r.bytes 9 = .ofNat 8 left ∧ unusedFrom r 10) ∧
   (∀ d : DemandRecord, let r := OutRecord.demandView d
    byte r.bytes 1 = 0x85 ∧ byte r.bytes 2 = 0 ∧ byte r.bytes 3 = .ofNat 8 d.state.code ∧
    flags r 4 [d.lastSeq.isSome] ∧ half r.bytes 5 = .ofInt 16 d.demand ∧
    byte r.bytes 7 = .ofNat 8 d.direction.code ∧ byte r.bytes 8 = .ofNat 8 d.gripMode.code ∧
    byte r.bytes 9 = d.lastSeq.getD 0 ∧ byte r.bytes 10 = (if d.timer = .stopped then 0 else 1) ∧ unusedFrom r 11) ∧
   (∀ v : SelfView, let r := OutRecord.selfView v
    byte r.bytes 1 = 0x85 ∧ byte r.bytes 2 = .ofNat 8 v.number.val ∧ byte r.bytes 3 = 3 ∧
    flags r 4 [false, v.health.isSome, v.figures.demandSeq.isSome] ∧ byte r.bytes 5 = .ofNat 8 v.mode.code ∧
    byte r.bytes 6 = .ofNat 8 (match v.health with | some h => h.code | none => 0) ∧
    flags r 7 [false, false, false, false, v.figures.rateLimited, v.figures.slipActive, v.figures.demandSeq.isNone] ∧
    half r.bytes 8 = .ofNat 16 v.figures.propCap ∧ half r.bytes 10 = .ofNat 16 v.figures.retCap ∧
    half r.bytes 12 = .ofNat 16 v.figures.weight ∧ half r.bytes 14 = .ofNat 16 v.figures.axleSpeed ∧
    half r.bytes 16 = .ofInt 16 v.figures.held ∧ byte r.bytes 18 = v.figures.demandSeq.getD 0 ∧
    byte r.bytes 19 = .ofNat 8 v.figures.grip ∧ byte r.bytes 20 = v.ownSeq ∧
    byte r.bytes 21 = .ofNat 8 v.joinCount ∧ byte r.bytes 22 = .ofNat 8 v.echoRun ∧
    byte r.bytes 23 = .ofNat 8 v.crcErrors ∧ byte r.bytes 24 = .ofNat 8 v.lostClaims ∧
    byte r.bytes 25 = .ofNat 8 v.framesDropped ∧ byte r.bytes 26 = .ofNat 8 v.misplaced ∧
    byte r.bytes 27 = .ofNat 8 v.slipEvents ∧ unusedFrom r 28) ∧
   ∀ (n : StationNumber) (e : PeerEntry), let r := OutRecord.peerView n e
    byte r.bytes 1 = 0x85 ∧ byte r.bytes 2 = .ofNat 8 n.val ∧ byte r.bytes 3 = .ofNat 8 e.state.code ∧
    flags r 4 [e.lastSeq.isSome, e.health.isSome, e.reportedDemandSeq.isSome, e.lastAlertSlip.isSome,
      e.lastFaultCause.isSome] ∧
    byte r.bytes 5 = .ofNat 8 e.joinCount ∧ byte r.bytes 6 = e.lastSeq.getD 0 ∧
    byte r.bytes 7 = .ofNat 8 e.gaps ∧
    byte r.bytes 8 = .ofNat 8 (match e.health with | some h => h.code | none => 0) ∧
    half r.bytes 9 = .ofNat 16 e.propCap ∧ half r.bytes 11 = .ofNat 16 e.retCap ∧
    half r.bytes 13 = .ofNat 16 e.weight ∧ half r.bytes 15 = .ofNat 16 e.axleSpeed ∧
    half r.bytes 17 = .ofInt 16 e.reported ∧ byte r.bytes 19 = e.reportedDemandSeq.getD 0 ∧
    flags r 20 [e.rateLimited, e.slipFlag, e.discordant, decide (e.silenceTimer ≠ .stopped)] ∧
    byte r.bytes 21 = .ofNat 8 e.grip ∧ half r.bytes 22 = .ofNat 16 (e.lastAlertSlip.getD 0) ∧
    byte r.bytes 24 = .ofNat 8 (match e.lastFaultCause with | some c => c.code | none => 0) ∧
    byte r.bytes 25 = .ofNat 8 e.discordCount ∧ unusedFrom r 26) ∧
  ([RecordKind.setup, .measure, .takeNotice, .readPeer, .safeRequest, .resume, .linkResetRequest, .nop].map RecordKind.code
      = [1, 2, 3, 4, 5, 6, 7, 8] ∧
    [StationMode.unconfigured, .announcing, .sharing, .safe].map StationMode.code = [0, 1, 2, 3] ∧
    [ResetCause.power, .pin].map ResetCause.code = [1, 2] ∧
    [FaultCause.clash, .linkMute, .measureTimeout, .localRequest].map FaultCause.code = [1, 2, 3, 4] ∧
    [Sense.none, .propulsive, .retarding].map Sense.code = [0, 1, 2] ∧
    [DemandState.none, .fresh, .stale].map DemandState.code = [0, 1, 2] ∧
    [Direction.forward, .reverse].map Direction.code = [0, 1] ∧ [GripMode.normal, .lowGrip].map GripMode.code = [0, 1] ∧
    [Health.joining, .sharing, .withdrawn].map Health.code = [0, 1, 2] ∧
    [MonitorState.off, .settling, .watching, .confirming, .recovering].map MonitorState.code = [0, 1, 2, 3, 4] ∧
    [PeerState.absent, .joining, .live, .silent, .withdrawn].map PeerState.code = [4, 5, 6, 7, 8] ∧
    [Reason.length, .check, .kind, .notConfigured, .alreadyConfigured, .strap, .range, .state, .clash, .busy].map Reason.code
      = [1, 2, 3, 4, 5, 6, 7, 8, 9, 10] ∧
    [NoticeKind.peerJoined, .peerSilent, .peerWithdrawn, .peerDiscord, .demandStale, .demandResumed, .slipEvent,
      .slipRecovered, .sagEntered, .sagLeft, .measureOverrun, .measureLost, .clamped, .echoFail, .linkResetSeen,
      .faultEntered, .setupAccepted].map NoticeKind.code = [1, 2, 3, 4, 5, 6, 7, 8, 9, 10, 11, 12, 13, 14, 15, 16, 17]) ∧
  ∀ (l : LocalPort) (n : Nat),
    (l.inExchange = false → l.psdo n = none) ∧
    ∀ r, l.inExchange = true → l.outgoing = some r →
      l.psdo n = some (if n < 384 then (byte r.bytes (n / 8 + 1)).getLsbD (n % 8) else false)

/-- Frames as bytes and bits. A reception of no byte, of a first byte that names no kind, of fewer bytes than its kind's length, or of a
CRC that does not match is its receive error, and a dominant stop bit before the length ends it in that error; any other is the frame
of its kind, with each field read at the bits 10.2 gives it and every other bit ignored. Every good frame, written by 10.2 with its
CRC, reads back as itself. Bytes taken in fill the receive buffer up to the kind's length, and the reception ends in the command they
spell (log 8). The CRC is that of R177. A byte on the line is a dominant start bit, its bits least significant first with 0 dominant,
and a recessive stop bit, and is read so behind any quiet. The STATUS, SLIP ALERT and FAULT this station sends, of 18, 12 and 6 bytes,
are read by a peer as from its number, STATUS in the routine class and the others in the urgent, with the figures each was queued
with (R69, R77, R78, R79, R92, R97, R135, R176, R177, R52, R58, R59). -/
def Obligations.FramesReadBack : Prop :=
  let byte (bs : List Byte) (k : Nat) : Byte := bs.getD (k - 1) 0
  let half (bs : List Byte) (k : Nat) : Half := byte bs (k + 1) ++ byte bs k
  (∀ (bs : List Byte) (stopped : Bool),
    let kind := byte bs 1
    let short : Instr := .receiveError (if stopped then .dominantStop else .shortFrame)
    (bs = [] → receptionCommand bs stopped = short) ∧
    (bs ≠ [] → kind ≠ 0x51 → kind ≠ 0x52 → kind ≠ 0x53 → kind ≠ 0x54 →
      receptionCommand bs stopped = .receiveError .unknownKind) ∧
    ∀ n, (kind = 0x51 ∧ n = 8) ∨ (kind = 0x52 ∧ n = 18) ∨ (kind = 0x53 ∧ n = 12) ∨ (kind = 0x54 ∧ n = 6) →
      (bs.length < n → receptionCommand bs stopped = short) ∧
      (n ≤ bs.length → crc16 (bs.take (n - 2)) ≠ half bs (n - 1) →
        receptionCommand bs stopped = .receiveError .crcMismatch) ∧
      (n ≤ bs.length → crc16 (bs.take (n - 2)) = half bs (n - 1) →
        let header : FrameHeader :=
          { sender := .ofNat 4 (byte bs 2).toNat
            cls := if (byte bs 2).getLsbD 4 then .routine else .urgent
            seq := byte bs 3 }
        (kind = 0x51 → receptionCommand bs stopped = .demandFrame header
          { demand := half bs 4, direction := .ofNat 4 (byte bs 6).toNat
            gripMode := .ofNat 4 ((byte bs 6).toNat / 16) }) ∧
        (kind = 0x52 → receptionCommand bs stopped = .statusFrame header
          { health := .ofNat 2 (byte bs 4).toNat, rateLimited := (byte bs 4).getLsbD 4
            slipActive := (byte bs 4).getLsbD 5, noDemand := (byte bs 4).getLsbD 6, propCap := half bs 5
            retCap := half bs 7, weight := half bs 9, axleSpeed := half bs 11, held := half bs 13
            demandSeq := byte bs 15, grip := byte bs 16 }) ∧
        (kind = 0x53 → receptionCommand bs stopped = .slipAlertFrame header
          { sense := byte bs 4, newCap := half bs 5, newWeight := half bs 7, slip := half bs 9 }) ∧
        (kind = 0x54 → receptionCommand bs stopped = .faultFrame header { cause := byte bs 4 }))) ∧
  (∀ (c : Instr) (bs : List Byte), frameBytes c = some bs → receptionCommand bs false = c) ∧
  (∀ (levels : List Level) (s : State), s.slc.reception = .receiving → s.slc.received = [] →
    let read := readLevels levels
    let taken := match read.bytes with
      | [] => []
      | kind :: _ =>
        if kind = 0x51 then read.bytes.take 8 else if kind = 0x52 then read.bytes.take 18
        else if kind = 0x53 then read.bytes.take 12 else if kind = 0x54 then read.bytes.take 6 else read.bytes.take 1
    s.withFrameLevels levels =
      { s with
        slc := { s.slc with received := taken }
        pending := receptionCommand read.bytes read.dominantStop :: s.pending }) ∧
  (∀ bs : List Byte, ∀ s : State, s.withFrameBytes bs = s.withFrameLevels (bs.flatMap byteLevels)) ∧
  (∀ b : Byte, byteLevels b = [.dominant] ++
    (List.range 8).map (fun i => if b.getLsbD i then Level.recessive else .dominant) ++ [.recessive]) ∧
  (∀ (line : List (Nat × Byte)) (b : Byte) (k : Nat) (rest : List Level),
    let levels := line.flatMap (fun c => List.replicate c.1 .recessive ++ byteLevels c.2)
    (k < 10 → readLevels (levels ++ (byteLevels b).take k) = ⟨line.map (·.2), false⟩) ∧
    readLevels (levels ++ (byteLevels b).take 9 ++ .dominant :: rest) = ⟨line.map (·.2), true⟩) ∧
  (crc16 [] = 0xFFFF ∧ ∀ (bs : List Byte) (b : Byte), crc16 (bs ++ [b]) =
    (List.range 8).foldl (fun (r : Half) i => if r.getLsbD 15 = b.getLsbD (7 - i) then r <<< 1 else (r <<< 1) ^^^ 0x1021)
      (crc16 bs)) ∧
  ∀ (own : StationNumber) (seq : Seq),
    let sent (f : OwnFrame) : Option (List Byte) := TransmitFrame.bytes ⟨f, some seq, some (f.crc own seq), 0⟩ own
    (∀ f : StatusFrame,
      f.figures.propCap ≤ 8000 → f.figures.retCap ≤ 8000 → f.figures.weight ≤ 1000 → f.figures.axleSpeed ≤ 65535 →
      f.figures.held.natAbs ≤ 8000 → 4 ≤ f.figures.grip → f.figures.grip ≤ 16 →
      ∃ bs h p, sent (.status f) = some bs ∧ bs.length = 18 ∧ receptionCommand bs false = .statusFrame h p ∧
        h.sender.toNat = own.val ∧ h.cls = .routine ∧ h.seq = seq ∧
        readStatus p = some
          { health := f.health, propCap := f.figures.propCap, retCap := f.figures.retCap, weight := f.figures.weight
            axleSpeed := f.figures.axleSpeed, reported := f.figures.held, demandSeq := f.figures.demandSeq
            rateLimited := f.figures.rateLimited, slipActive := f.figures.slipActive, grip := f.figures.grip }) ∧
    (∀ a : SlipAlert, a.sense ≠ .none → a.newCap ≤ 8000 → a.newWeight ≤ 1000 → a.slip ≤ 1000 →
      ∃ bs h p, sent (.urgent (.slipAlert a)) = some bs ∧ bs.length = 12 ∧ receptionCommand bs false = .slipAlertFrame h p ∧
        h.sender.toNat = own.val ∧ h.cls = .urgent ∧ h.seq = seq ∧ readSlipAlert p = some a) ∧
    ∀ c : FaultCause, ∃ bs h p, sent (.urgent (.fault c)) = some bs ∧ bs.length = 6 ∧ receptionCommand bs false = .faultFrame h p ∧
      h.sender.toNat = own.val ∧ h.cls = .urgent ∧ h.seq = seq ∧ FaultCause.ofCode p.cause.toNat = some c

/-! ## What every step keeps -/

/-- Reset satisfies every invariant stated below. -/
def Obligations.ResetIsSafe : Prop :=
  State.reset.WheelSafe ∧ State.reset.PortSafe ∧ State.reset.CountersSafe ∧ State.reset.SupervisorSafe ∧
    State.reset.LinkSafe ∧ State.reset.SchedulerSafe ∧ State.reset.TorqueSafe

/-- Every step keeps the tooth wheels legal: rings of at most four periods no shorter than the minimum, speeds that are those of
the rings, an axle speed that is their mean, stop timers running with a last edge, enables that follow the channel count (R105,
R106, R109 to R113). -/
def Obligations.WheelsStaySafe : Prop :=
  ∀ s t : State, s.WheelSafe → step s = .next t → t.WheelSafe

/-- Every step keeps the local port in order: at most 16 notices, the interim timer stopped exactly with an empty queue, NTC equal
to its condition, a record sent in every exchange, at most 48 bytes received and none kept out of an exchange; and keeps every
counter of the part within 0..255 (R158, R159, R171 to R174). -/
def Obligations.PortAndCountersStaySafe : Prop :=
  ∀ s t : State, step s = .next t → (s.PortSafe → t.PortSafe) ∧ (s.CountersSafe → t.CountersSafe)

/-- Every step keeps the station supervisor consistent: a fault cause exactly in SAFE, the clash bar in SAFE only, a join below three
in ANNOUNCING, the measure timer running exactly once configured (R146 to R156). -/
def Obligations.SupervisorStaysSafe : Prop :=
  ∀ s t : State, s.SupervisorSafe → step s = .next t → t.SupervisorSafe

/-- Every step keeps the link controller consistent: the claim state describes the transmit buffer and the line, a numbered frame
carries its own CRC, a reception stands on the line FRAME only, the receive buffer is empty out of a reception and never longer
than the frame, and an UNCONFIGURED station claims and drives nothing (R75 to R88). -/
def Obligations.LinkStaysSafe : Prop :=
  ∀ s t : State, s.LinkSafe → step s = .next t → t.LinkSafe

/-- Every step keeps the frame scheduler in order: at most four urgent frames with at most one FAULT, SLIP ALERTs in SHARING only, a
waiting STATUS with the health of the mode, and no frame left waiting where it could move (R90, R91, R95 to R98, R103). -/
def Obligations.SchedulerStaysSafe : Prop :=
  ∀ s t : State, s.SchedulerSafe → step s = .next t → t.SchedulerSafe

/-- Every step keeps the torque safe: the held command 0 outside SHARING, of the sign of the demand, within the effective cap and
with the motor command its conversion; and, with it, the configuration in range, the peer table legal, the Slip Monitor and the
Split Engine consistent (R162, R43 to R63, R119 to R139, R1 to R23, R33, R36, R37, R40, R41). -/
def Obligations.TorqueStaysSafe : Prop :=
  ∀ s t : State, s.TorqueSafe → step s = .next t → t.TorqueSafe
end

