-- ==== Sys2Proof/Laws/State.lean ====
section
/-! SUPPORT. The frame of every operation on State: one lemma for each field an operation leaves alone. -/

namespace Sys2Proof.Machine

variable (s : State)

/-! ## notify -/

@[simp] theorem State.notify_pending (k : NoticeKind) (st : Option StationNumber) (v : Option Nat) :
    (s.notify k st v).pending = s.pending := rfl

@[simp] theorem State.notify_timebase (k : NoticeKind) (st : Option StationNumber) (v : Option Nat) :
    (s.notify k st v).timebase = s.timebase := rfl

@[simp] theorem State.notify_config (k : NoticeKind) (st : Option StationNumber) (v : Option Nat) :
    (s.notify k st v).config = s.config := rfl

@[simp] theorem State.notify_ssv (k : NoticeKind) (st : Option StationNumber) (v : Option Nat) :
    (s.notify k st v).ssv = s.ssv := rfl

@[simp] theorem State.notify_slc (k : NoticeKind) (st : Option StationNumber) (v : Option Nat) :
    (s.notify k st v).slc = s.slc := rfl

@[simp] theorem State.notify_fsc (k : NoticeKind) (st : Option StationNumber) (v : Option Nat) :
    (s.notify k st v).fsc = s.fsc := rfl

@[simp] theorem State.notify_ptb (k : NoticeKind) (st : Option StationNumber) (v : Option Nat) :
    (s.notify k st v).ptb = s.ptb := rfl

@[simp] theorem State.notify_wcu (k : NoticeKind) (st : Option StationNumber) (v : Option Nat) :
    (s.notify k st v).wcu = s.wcu := rfl

@[simp] theorem State.notify_slm (k : NoticeKind) (st : Option StationNumber) (v : Option Nat) :
    (s.notify k st v).slm = s.slm := rfl

@[simp] theorem State.notify_spe (k : NoticeKind) (st : Option StationNumber) (v : Option Nat) :
    (s.notify k st v).spe = s.spe := rfl

@[simp] theorem State.notify_cms (k : NoticeKind) (st : Option StationNumber) (v : Option Nat) :
    (s.notify k st v).cms = s.cms := rfl

/-! ## notifyTable -/

@[simp] theorem State.notifyTable_pending (n : StationNumber) (t : Option TableNotice) :
    (s.notifyTable n t).pending = s.pending := by
  unfold State.notifyTable; repeat' split
  all_goals simp

@[simp] theorem State.notifyTable_timebase (n : StationNumber) (t : Option TableNotice) :
    (s.notifyTable n t).timebase = s.timebase := by
  unfold State.notifyTable; repeat' split
  all_goals simp

@[simp] theorem State.notifyTable_config (n : StationNumber) (t : Option TableNotice) :
    (s.notifyTable n t).config = s.config := by
  unfold State.notifyTable; repeat' split
  all_goals simp

@[simp] theorem State.notifyTable_ssv (n : StationNumber) (t : Option TableNotice) :
    (s.notifyTable n t).ssv = s.ssv := by
  unfold State.notifyTable; repeat' split
  all_goals simp

@[simp] theorem State.notifyTable_slc (n : StationNumber) (t : Option TableNotice) :
    (s.notifyTable n t).slc = s.slc := by
  unfold State.notifyTable; repeat' split
  all_goals simp

@[simp] theorem State.notifyTable_fsc (n : StationNumber) (t : Option TableNotice) :
    (s.notifyTable n t).fsc = s.fsc := by
  unfold State.notifyTable; repeat' split
  all_goals simp

@[simp] theorem State.notifyTable_ptb (n : StationNumber) (t : Option TableNotice) :
    (s.notifyTable n t).ptb = s.ptb := by
  unfold State.notifyTable; repeat' split
  all_goals simp

@[simp] theorem State.notifyTable_wcu (n : StationNumber) (t : Option TableNotice) :
    (s.notifyTable n t).wcu = s.wcu := by
  unfold State.notifyTable; repeat' split
  all_goals simp

@[simp] theorem State.notifyTable_slm (n : StationNumber) (t : Option TableNotice) :
    (s.notifyTable n t).slm = s.slm := by
  unfold State.notifyTable; repeat' split
  all_goals simp

@[simp] theorem State.notifyTable_spe (n : StationNumber) (t : Option TableNotice) :
    (s.notifyTable n t).spe = s.spe := by
  unfold State.notifyTable; repeat' split
  all_goals simp

@[simp] theorem State.notifyTable_cms (n : StationNumber) (t : Option TableNotice) :
    (s.notifyTable n t).cms = s.cms := by
  unfold State.notifyTable; repeat' split
  all_goals simp

/-! ## place -/

@[simp] theorem State.place_pending (r : Reply) :
    (s.place r).pending = s.pending := rfl

@[simp] theorem State.place_timebase (r : Reply) :
    (s.place r).timebase = s.timebase := rfl

@[simp] theorem State.place_config (r : Reply) :
    (s.place r).config = s.config := rfl

@[simp] theorem State.place_ssv (r : Reply) :
    (s.place r).ssv = s.ssv := rfl

@[simp] theorem State.place_slc (r : Reply) :
    (s.place r).slc = s.slc := rfl

@[simp] theorem State.place_fsc (r : Reply) :
    (s.place r).fsc = s.fsc := rfl

@[simp] theorem State.place_ptb (r : Reply) :
    (s.place r).ptb = s.ptb := rfl

@[simp] theorem State.place_wcu (r : Reply) :
    (s.place r).wcu = s.wcu := rfl

@[simp] theorem State.place_slm (r : Reply) :
    (s.place r).slm = s.slm := rfl

@[simp] theorem State.place_spe (r : Reply) :
    (s.place r).spe = s.spe := rfl

@[simp] theorem State.place_cms (r : Reply) :
    (s.place r).cms = s.cms := rfl

/-! ## endExchange -/

@[simp] theorem State.endExchange_pending :
    (s.endExchange).pending = s.pending := rfl

@[simp] theorem State.endExchange_timebase :
    (s.endExchange).timebase = s.timebase := rfl

@[simp] theorem State.endExchange_config :
    (s.endExchange).config = s.config := rfl

@[simp] theorem State.endExchange_ssv :
    (s.endExchange).ssv = s.ssv := rfl

@[simp] theorem State.endExchange_slc :
    (s.endExchange).slc = s.slc := rfl

@[simp] theorem State.endExchange_fsc :
    (s.endExchange).fsc = s.fsc := rfl

@[simp] theorem State.endExchange_ptb :
    (s.endExchange).ptb = s.ptb := rfl

@[simp] theorem State.endExchange_wcu :
    (s.endExchange).wcu = s.wcu := rfl

@[simp] theorem State.endExchange_slm :
    (s.endExchange).slm = s.slm := rfl

@[simp] theorem State.endExchange_spe :
    (s.endExchange).spe = s.spe := rfl

@[simp] theorem State.endExchange_cms :
    (s.endExchange).cms = s.cms := rfl

/-! ## replaceRoutine -/

@[simp] theorem State.replaceRoutine_pending :
    (s.replaceRoutine).pending = s.pending := rfl

@[simp] theorem State.replaceRoutine_timebase :
    (s.replaceRoutine).timebase = s.timebase := rfl

@[simp] theorem State.replaceRoutine_config :
    (s.replaceRoutine).config = s.config := rfl

@[simp] theorem State.replaceRoutine_ssv :
    (s.replaceRoutine).ssv = s.ssv := rfl

@[simp] theorem State.replaceRoutine_slc :
    (s.replaceRoutine).slc = s.slc := rfl

@[simp] theorem State.replaceRoutine_ptb :
    (s.replaceRoutine).ptb = s.ptb := rfl

@[simp] theorem State.replaceRoutine_wcu :
    (s.replaceRoutine).wcu = s.wcu := rfl

@[simp] theorem State.replaceRoutine_slm :
    (s.replaceRoutine).slm = s.slm := rfl

@[simp] theorem State.replaceRoutine_spe :
    (s.replaceRoutine).spe = s.spe := rfl

@[simp] theorem State.replaceRoutine_cms :
    (s.replaceRoutine).cms = s.cms := rfl

@[simp] theorem State.replaceRoutine_lpt :
    (s.replaceRoutine).lpt = s.lpt := rfl

/-! ## move -/

@[simp] theorem State.move_pending :
    (s.move).pending = s.pending := by
  unfold State.move; split <;> [split <;> rfl; rfl]

@[simp] theorem State.move_timebase :
    (s.move).timebase = s.timebase := by
  unfold State.move; split <;> [split <;> rfl; rfl]

@[simp] theorem State.move_config :
    (s.move).config = s.config := by
  unfold State.move; split <;> [split <;> rfl; rfl]

@[simp] theorem State.move_ssv :
    (s.move).ssv = s.ssv := by
  unfold State.move; split <;> [split <;> rfl; rfl]

@[simp] theorem State.move_ptb :
    (s.move).ptb = s.ptb := by
  unfold State.move; split <;> [split <;> rfl; rfl]

@[simp] theorem State.move_wcu :
    (s.move).wcu = s.wcu := by
  unfold State.move; split <;> [split <;> rfl; rfl]

@[simp] theorem State.move_slm :
    (s.move).slm = s.slm := by
  unfold State.move; split <;> [split <;> rfl; rfl]

@[simp] theorem State.move_spe :
    (s.move).spe = s.spe := by
  unfold State.move; split <;> [split <;> rfl; rfl]

@[simp] theorem State.move_cms :
    (s.move).cms = s.cms := by
  unfold State.move; split <;> [split <;> rfl; rfl]

@[simp] theorem State.move_lpt :
    (s.move).lpt = s.lpt := by
  unfold State.move; split <;> [split <;> rfl; rfl]

/-! ## leaveSharing -/

@[simp] theorem State.leaveSharing_pending :
    (s.leaveSharing).pending = s.pending := by
  unfold State.leaveSharing; repeat' split
  all_goals simp

@[simp] theorem State.leaveSharing_timebase :
    (s.leaveSharing).timebase = s.timebase := by
  unfold State.leaveSharing; repeat' split
  all_goals simp

@[simp] theorem State.leaveSharing_config :
    (s.leaveSharing).config = s.config := by
  unfold State.leaveSharing; repeat' split
  all_goals simp

@[simp] theorem State.leaveSharing_ssv :
    (s.leaveSharing).ssv = s.ssv := by
  unfold State.leaveSharing; repeat' split
  all_goals simp

@[simp] theorem State.leaveSharing_slc :
    (s.leaveSharing).slc = s.slc := by
  unfold State.leaveSharing; repeat' split
  all_goals simp

@[simp] theorem State.leaveSharing_fsc :
    (s.leaveSharing).fsc = s.fsc := by
  unfold State.leaveSharing; repeat' split
  all_goals simp

@[simp] theorem State.leaveSharing_ptb :
    (s.leaveSharing).ptb = s.ptb := by
  unfold State.leaveSharing; repeat' split
  all_goals simp

@[simp] theorem State.leaveSharing_wcu :
    (s.leaveSharing).wcu = s.wcu := by
  unfold State.leaveSharing; repeat' split
  all_goals simp

@[simp] theorem State.leaveSharing_spe :
    (s.leaveSharing).spe = s.spe := by
  unfold State.leaveSharing; repeat' split
  all_goals simp

@[simp] theorem State.leaveSharing_lpt :
    (s.leaveSharing).lpt = s.lpt := by
  unfold State.leaveSharing; repeat' split
  all_goals simp

/-! ## goSafe -/

@[simp] theorem State.goSafe_pending (c : FaultCause) :
    (s.goSafe c).pending = s.pending := by
  simp [State.goSafe]

@[simp] theorem State.goSafe_timebase (c : FaultCause) :
    (s.goSafe c).timebase = s.timebase := by
  simp [State.goSafe]

@[simp] theorem State.goSafe_config (c : FaultCause) :
    (s.goSafe c).config = s.config := by
  simp [State.goSafe]

@[simp] theorem State.goSafe_slc (c : FaultCause) :
    (s.goSafe c).slc = s.slc := by
  simp [State.goSafe]

@[simp] theorem State.goSafe_ptb (c : FaultCause) :
    (s.goSafe c).ptb = s.ptb := by
  simp [State.goSafe]

@[simp] theorem State.goSafe_wcu (c : FaultCause) :
    (s.goSafe c).wcu = s.wcu := by
  simp [State.goSafe]

@[simp] theorem State.goSafe_spe (c : FaultCause) :
    (s.goSafe c).spe = s.spe := by
  simp [State.goSafe]

@[simp] theorem State.goSafe_lpt (c : FaultCause) :
    (s.goSafe c).lpt = s.lpt := by
  simp [State.goSafe]

/-! ## enterSafe -/

@[simp] theorem State.enterSafe_pending (c : FaultCause) :
    (s.enterSafe c).pending = s.pending := by
  simp [State.enterSafe]

@[simp] theorem State.enterSafe_timebase (c : FaultCause) :
    (s.enterSafe c).timebase = s.timebase := by
  simp [State.enterSafe]

@[simp] theorem State.enterSafe_config (c : FaultCause) :
    (s.enterSafe c).config = s.config := by
  simp [State.enterSafe]

@[simp] theorem State.enterSafe_ptb (c : FaultCause) :
    (s.enterSafe c).ptb = s.ptb := by
  simp [State.enterSafe]

@[simp] theorem State.enterSafe_wcu (c : FaultCause) :
    (s.enterSafe c).wcu = s.wcu := by
  simp [State.enterSafe]

@[simp] theorem State.enterSafe_spe (c : FaultCause) :
    (s.enterSafe c).spe = s.spe := by
  simp [State.enterSafe]

/-! ## classAInSafe -/

@[simp] theorem State.classAInSafe_pending (c : FaultCause) :
    (s.classAInSafe c).pending = s.pending := rfl

@[simp] theorem State.classAInSafe_timebase (c : FaultCause) :
    (s.classAInSafe c).timebase = s.timebase := rfl

@[simp] theorem State.classAInSafe_config (c : FaultCause) :
    (s.classAInSafe c).config = s.config := rfl

@[simp] theorem State.classAInSafe_slc (c : FaultCause) :
    (s.classAInSafe c).slc = s.slc := rfl

@[simp] theorem State.classAInSafe_fsc (c : FaultCause) :
    (s.classAInSafe c).fsc = s.fsc := rfl

@[simp] theorem State.classAInSafe_ptb (c : FaultCause) :
    (s.classAInSafe c).ptb = s.ptb := rfl

@[simp] theorem State.classAInSafe_wcu (c : FaultCause) :
    (s.classAInSafe c).wcu = s.wcu := rfl

@[simp] theorem State.classAInSafe_slm (c : FaultCause) :
    (s.classAInSafe c).slm = s.slm := rfl

@[simp] theorem State.classAInSafe_spe (c : FaultCause) :
    (s.classAInSafe c).spe = s.spe := rfl

@[simp] theorem State.classAInSafe_cms (c : FaultCause) :
    (s.classAInSafe c).cms = s.cms := rfl

/-! ## classA -/

@[simp] theorem State.classA_pending (c : FaultCause) :
    (s.classA c).pending = s.pending := by
  unfold State.classA; repeat' split
  all_goals simp

@[simp] theorem State.classA_timebase (c : FaultCause) :
    (s.classA c).timebase = s.timebase := by
  unfold State.classA; repeat' split
  all_goals simp

@[simp] theorem State.classA_config (c : FaultCause) :
    (s.classA c).config = s.config := by
  unfold State.classA; repeat' split
  all_goals simp

@[simp] theorem State.classA_ptb (c : FaultCause) :
    (s.classA c).ptb = s.ptb := by
  unfold State.classA; repeat' split
  all_goals simp

@[simp] theorem State.classA_wcu (c : FaultCause) :
    (s.classA c).wcu = s.wcu := by
  unfold State.classA; repeat' split
  all_goals simp

@[simp] theorem State.classA_spe (c : FaultCause) :
    (s.classA c).spe = s.spe := by
  unfold State.classA; repeat' split
  all_goals simp

/-! ## enterSharing -/

@[simp] theorem State.enterSharing_pending :
    (s.enterSharing).pending = s.pending := rfl

@[simp] theorem State.enterSharing_timebase :
    (s.enterSharing).timebase = s.timebase := rfl

@[simp] theorem State.enterSharing_config :
    (s.enterSharing).config = s.config := rfl

@[simp] theorem State.enterSharing_slc :
    (s.enterSharing).slc = s.slc := rfl

@[simp] theorem State.enterSharing_ptb :
    (s.enterSharing).ptb = s.ptb := rfl

@[simp] theorem State.enterSharing_wcu :
    (s.enterSharing).wcu = s.wcu := rfl

@[simp] theorem State.enterSharing_spe :
    (s.enterSharing).spe = s.spe := rfl

@[simp] theorem State.enterSharing_cms :
    (s.enterSharing).cms = s.cms := rfl

@[simp] theorem State.enterSharing_lpt :
    (s.enterSharing).lpt = s.lpt := rfl

/-! ## startComputation -/

@[simp] theorem State.startComputation_pending (m : Measure) :
    (s.startComputation m).pending = s.pending := rfl

@[simp] theorem State.startComputation_timebase (m : Measure) :
    (s.startComputation m).timebase = s.timebase := rfl

@[simp] theorem State.startComputation_config (m : Measure) :
    (s.startComputation m).config = s.config := rfl

@[simp] theorem State.startComputation_ssv (m : Measure) :
    (s.startComputation m).ssv = s.ssv := rfl

@[simp] theorem State.startComputation_slc (m : Measure) :
    (s.startComputation m).slc = s.slc := rfl

@[simp] theorem State.startComputation_fsc (m : Measure) :
    (s.startComputation m).fsc = s.fsc := rfl

@[simp] theorem State.startComputation_ptb (m : Measure) :
    (s.startComputation m).ptb = s.ptb := rfl

@[simp] theorem State.startComputation_wcu (m : Measure) :
    (s.startComputation m).wcu = s.wcu := rfl

@[simp] theorem State.startComputation_slm (m : Measure) :
    (s.startComputation m).slm = s.slm := rfl

@[simp] theorem State.startComputation_cms (m : Measure) :
    (s.startComputation m).cms = s.cms := rfl

@[simp] theorem State.startComputation_lpt (m : Measure) :
    (s.startComputation m).lpt = s.lpt := rfl

/-! ## endReception -/

@[simp] theorem State.endReception_pending :
    (s.endReception).pending = s.pending := rfl

@[simp] theorem State.endReception_timebase :
    (s.endReception).timebase = s.timebase := rfl

@[simp] theorem State.endReception_config :
    (s.endReception).config = s.config := rfl

@[simp] theorem State.endReception_ssv :
    (s.endReception).ssv = s.ssv := rfl

@[simp] theorem State.endReception_fsc :
    (s.endReception).fsc = s.fsc := rfl

@[simp] theorem State.endReception_ptb :
    (s.endReception).ptb = s.ptb := rfl

@[simp] theorem State.endReception_wcu :
    (s.endReception).wcu = s.wcu := rfl

@[simp] theorem State.endReception_slm :
    (s.endReception).slm = s.slm := rfl

@[simp] theorem State.endReception_spe :
    (s.endReception).spe = s.spe := rfl

@[simp] theorem State.endReception_cms :
    (s.endReception).cms = s.cms := rfl

@[simp] theorem State.endReception_lpt :
    (s.endReception).lpt = s.lpt := rfl

/-! ## countMisplaced -/

@[simp] theorem State.countMisplaced_pending :
    (s.countMisplaced).pending = s.pending := rfl

@[simp] theorem State.countMisplaced_timebase :
    (s.countMisplaced).timebase = s.timebase := rfl

@[simp] theorem State.countMisplaced_config :
    (s.countMisplaced).config = s.config := rfl

@[simp] theorem State.countMisplaced_ssv :
    (s.countMisplaced).ssv = s.ssv := rfl

@[simp] theorem State.countMisplaced_fsc :
    (s.countMisplaced).fsc = s.fsc := rfl

@[simp] theorem State.countMisplaced_ptb :
    (s.countMisplaced).ptb = s.ptb := rfl

@[simp] theorem State.countMisplaced_wcu :
    (s.countMisplaced).wcu = s.wcu := rfl

@[simp] theorem State.countMisplaced_slm :
    (s.countMisplaced).slm = s.slm := rfl

@[simp] theorem State.countMisplaced_spe :
    (s.countMisplaced).spe = s.spe := rfl

@[simp] theorem State.countMisplaced_cms :
    (s.countMisplaced).cms = s.cms := rfl

@[simp] theorem State.countMisplaced_lpt :
    (s.countMisplaced).lpt = s.lpt := rfl

/-! ## withEntry -/

@[simp] theorem State.withEntry_pending (n : StationNumber) (e : PeerEntry) :
    (s.withEntry n e).pending = s.pending := rfl

@[simp] theorem State.withEntry_timebase (n : StationNumber) (e : PeerEntry) :
    (s.withEntry n e).timebase = s.timebase := rfl

@[simp] theorem State.withEntry_config (n : StationNumber) (e : PeerEntry) :
    (s.withEntry n e).config = s.config := rfl

@[simp] theorem State.withEntry_ssv (n : StationNumber) (e : PeerEntry) :
    (s.withEntry n e).ssv = s.ssv := rfl

@[simp] theorem State.withEntry_slc (n : StationNumber) (e : PeerEntry) :
    (s.withEntry n e).slc = s.slc := rfl

@[simp] theorem State.withEntry_fsc (n : StationNumber) (e : PeerEntry) :
    (s.withEntry n e).fsc = s.fsc := rfl

@[simp] theorem State.withEntry_wcu (n : StationNumber) (e : PeerEntry) :
    (s.withEntry n e).wcu = s.wcu := rfl

@[simp] theorem State.withEntry_slm (n : StationNumber) (e : PeerEntry) :
    (s.withEntry n e).slm = s.slm := rfl

@[simp] theorem State.withEntry_spe (n : StationNumber) (e : PeerEntry) :
    (s.withEntry n e).spe = s.spe := rfl

@[simp] theorem State.withEntry_cms (n : StationNumber) (e : PeerEntry) :
    (s.withEntry n e).cms = s.cms := rfl

@[simp] theorem State.withEntry_lpt (n : StationNumber) (e : PeerEntry) :
    (s.withEntry n e).lpt = s.lpt := rfl

/-! ## sendState -/

@[simp] theorem State.sendState_pending :
    (s.sendState).pending = s.pending := rfl

@[simp] theorem State.sendState_timebase :
    (s.sendState).timebase = s.timebase := rfl

@[simp] theorem State.sendState_config :
    (s.sendState).config = s.config := rfl

@[simp] theorem State.sendState_ssv :
    (s.sendState).ssv = s.ssv := rfl

@[simp] theorem State.sendState_slc :
    (s.sendState).slc = s.slc := rfl

@[simp] theorem State.sendState_fsc :
    (s.sendState).fsc = s.fsc := rfl

@[simp] theorem State.sendState_ptb :
    (s.sendState).ptb = s.ptb := rfl

@[simp] theorem State.sendState_slm :
    (s.sendState).slm = s.slm := rfl

@[simp] theorem State.sendState_spe :
    (s.sendState).spe = s.spe := rfl

@[simp] theorem State.sendState_cms :
    (s.sendState).cms = s.cms := rfl

/-! ## sendNotice -/

@[simp] theorem State.sendNotice_pending :
    (s.sendNotice).pending = s.pending := by
  unfold State.sendNotice; repeat' split
  all_goals simp

@[simp] theorem State.sendNotice_timebase :
    (s.sendNotice).timebase = s.timebase := by
  unfold State.sendNotice; repeat' split
  all_goals simp

@[simp] theorem State.sendNotice_config :
    (s.sendNotice).config = s.config := by
  unfold State.sendNotice; repeat' split
  all_goals simp

@[simp] theorem State.sendNotice_ssv :
    (s.sendNotice).ssv = s.ssv := by
  unfold State.sendNotice; repeat' split
  all_goals simp

@[simp] theorem State.sendNotice_slc :
    (s.sendNotice).slc = s.slc := by
  unfold State.sendNotice; repeat' split
  all_goals simp

@[simp] theorem State.sendNotice_fsc :
    (s.sendNotice).fsc = s.fsc := by
  unfold State.sendNotice; repeat' split
  all_goals simp

@[simp] theorem State.sendNotice_ptb :
    (s.sendNotice).ptb = s.ptb := by
  unfold State.sendNotice; repeat' split
  all_goals simp

@[simp] theorem State.sendNotice_wcu :
    (s.sendNotice).wcu = s.wcu := by
  unfold State.sendNotice; repeat' split
  all_goals simp

@[simp] theorem State.sendNotice_slm :
    (s.sendNotice).slm = s.slm := by
  unfold State.sendNotice; repeat' split
  all_goals simp

@[simp] theorem State.sendNotice_spe :
    (s.sendNotice).spe = s.spe := by
  unfold State.sendNotice; repeat' split
  all_goals simp

@[simp] theorem State.sendNotice_cms :
    (s.sendNotice).cms = s.cms := by
  unfold State.sendNotice; repeat' split
  all_goals simp

/-! ## sendPeerView -/

@[simp] theorem State.sendPeerView_pending (n : StationNumber) :
    (s.sendPeerView n).pending = s.pending := by
  unfold State.sendPeerView; repeat' split
  all_goals simp

@[simp] theorem State.sendPeerView_timebase (n : StationNumber) :
    (s.sendPeerView n).timebase = s.timebase := by
  unfold State.sendPeerView; repeat' split
  all_goals simp

@[simp] theorem State.sendPeerView_config (n : StationNumber) :
    (s.sendPeerView n).config = s.config := by
  unfold State.sendPeerView; repeat' split
  all_goals simp

@[simp] theorem State.sendPeerView_ssv (n : StationNumber) :
    (s.sendPeerView n).ssv = s.ssv := by
  unfold State.sendPeerView; repeat' split
  all_goals simp

@[simp] theorem State.sendPeerView_fsc (n : StationNumber) :
    (s.sendPeerView n).fsc = s.fsc := by
  unfold State.sendPeerView; repeat' split
  all_goals simp

@[simp] theorem State.sendPeerView_wcu (n : StationNumber) :
    (s.sendPeerView n).wcu = s.wcu := by
  unfold State.sendPeerView; repeat' split
  all_goals simp

@[simp] theorem State.sendPeerView_spe (n : StationNumber) :
    (s.sendPeerView n).spe = s.spe := by
  unfold State.sendPeerView; repeat' split
  all_goals simp

@[simp] theorem State.sendPeerView_cms (n : StationNumber) :
    (s.sendPeerView n).cms = s.cms := by
  unfold State.sendPeerView; repeat' split
  all_goals simp

/-! ## sendReply -/

@[simp] theorem State.sendReply_pending (r : Reply) :
    (s.sendReply r).pending = s.pending := by
  unfold State.sendReply; dsimp only; repeat' split
  all_goals simp

@[simp] theorem State.sendReply_timebase (r : Reply) :
    (s.sendReply r).timebase = s.timebase := by
  unfold State.sendReply; dsimp only; repeat' split
  all_goals simp

@[simp] theorem State.sendReply_config (r : Reply) :
    (s.sendReply r).config = s.config := by
  unfold State.sendReply; dsimp only; repeat' split
  all_goals simp

@[simp] theorem State.sendReply_ssv (r : Reply) :
    (s.sendReply r).ssv = s.ssv := by
  unfold State.sendReply; dsimp only; repeat' split
  all_goals simp

@[simp] theorem State.sendReply_fsc (r : Reply) :
    (s.sendReply r).fsc = s.fsc := by
  unfold State.sendReply; dsimp only; repeat' split
  all_goals simp

@[simp] theorem State.sendReply_wcu (r : Reply) :
    (s.sendReply r).wcu = s.wcu := by
  unfold State.sendReply; dsimp only; repeat' split
  all_goals simp

@[simp] theorem State.sendReply_spe (r : Reply) :
    (s.sendReply r).spe = s.spe := by
  unfold State.sendReply; dsimp only; repeat' split
  all_goals simp

@[simp] theorem State.sendReply_cms (r : Reply) :
    (s.sendReply r).cms = s.cms := by
  unfold State.sendReply; dsimp only; repeat' split
  all_goals simp

/-! ## refuse -/

@[simp] theorem State.refuse_pending (k : RecordKind) (r : Reason) (i : Option Nat) :
    (s.refuse k r i).pending = s.pending := rfl

@[simp] theorem State.refuse_timebase (k : RecordKind) (r : Reason) (i : Option Nat) :
    (s.refuse k r i).timebase = s.timebase := rfl

@[simp] theorem State.refuse_config (k : RecordKind) (r : Reason) (i : Option Nat) :
    (s.refuse k r i).config = s.config := rfl

@[simp] theorem State.refuse_ssv (k : RecordKind) (r : Reason) (i : Option Nat) :
    (s.refuse k r i).ssv = s.ssv := rfl

@[simp] theorem State.refuse_slc (k : RecordKind) (r : Reason) (i : Option Nat) :
    (s.refuse k r i).slc = s.slc := rfl

@[simp] theorem State.refuse_fsc (k : RecordKind) (r : Reason) (i : Option Nat) :
    (s.refuse k r i).fsc = s.fsc := rfl

@[simp] theorem State.refuse_ptb (k : RecordKind) (r : Reason) (i : Option Nat) :
    (s.refuse k r i).ptb = s.ptb := rfl

@[simp] theorem State.refuse_wcu (k : RecordKind) (r : Reason) (i : Option Nat) :
    (s.refuse k r i).wcu = s.wcu := rfl

@[simp] theorem State.refuse_slm (k : RecordKind) (r : Reason) (i : Option Nat) :
    (s.refuse k r i).slm = s.slm := rfl

@[simp] theorem State.refuse_spe (k : RecordKind) (r : Reason) (i : Option Nat) :
    (s.refuse k r i).spe = s.spe := rfl

@[simp] theorem State.refuse_cms (k : RecordKind) (r : Reason) (i : Option Nat) :
    (s.refuse k r i).cms = s.cms := rfl

/-! ## startInterim -/

@[simp] theorem State.startInterim_pending :
    (s.startInterim).pending = s.pending := rfl

@[simp] theorem State.startInterim_timebase :
    (s.startInterim).timebase = s.timebase := rfl

@[simp] theorem State.startInterim_config :
    (s.startInterim).config = s.config := rfl

@[simp] theorem State.startInterim_ssv :
    (s.startInterim).ssv = s.ssv := rfl

@[simp] theorem State.startInterim_slc :
    (s.startInterim).slc = s.slc := rfl

@[simp] theorem State.startInterim_fsc :
    (s.startInterim).fsc = s.fsc := rfl

@[simp] theorem State.startInterim_ptb :
    (s.startInterim).ptb = s.ptb := rfl

@[simp] theorem State.startInterim_wcu :
    (s.startInterim).wcu = s.wcu := rfl

@[simp] theorem State.startInterim_slm :
    (s.startInterim).slm = s.slm := rfl

@[simp] theorem State.startInterim_spe :
    (s.startInterim).spe = s.spe := rfl

@[simp] theorem State.startInterim_cms :
    (s.startInterim).cms = s.cms := rfl

/-! ## configure -/

@[simp] theorem State.configure_pending (c : Setup) :
    (s.configure c).pending = s.pending := rfl

@[simp] theorem State.configure_timebase (c : Setup) :
    (s.configure c).timebase = s.timebase := rfl

@[simp] theorem State.configure_slc (c : Setup) :
    (s.configure c).slc = s.slc := rfl

@[simp] theorem State.configure_ptb (c : Setup) :
    (s.configure c).ptb = s.ptb := rfl

@[simp] theorem State.configure_slm (c : Setup) :
    (s.configure c).slm = s.slm := rfl

@[simp] theorem State.configure_spe (c : Setup) :
    (s.configure c).spe = s.spe := rfl

@[simp] theorem State.configure_lpt (c : Setup) :
    (s.configure c).lpt = s.lpt := rfl

/-! ## acceptSetup -/

@[simp] theorem State.acceptSetup_pending (c : Setup) :
    (s.acceptSetup c).pending = s.pending := rfl

@[simp] theorem State.acceptSetup_timebase (c : Setup) :
    (s.acceptSetup c).timebase = s.timebase := rfl

@[simp] theorem State.acceptSetup_slc (c : Setup) :
    (s.acceptSetup c).slc = s.slc := rfl

@[simp] theorem State.acceptSetup_ptb (c : Setup) :
    (s.acceptSetup c).ptb = s.ptb := rfl

@[simp] theorem State.acceptSetup_slm (c : Setup) :
    (s.acceptSetup c).slm = s.slm := rfl

@[simp] theorem State.acceptSetup_spe (c : Setup) :
    (s.acceptSetup c).spe = s.spe := rfl

/-! ## noteClamp -/

@[simp] theorem State.noteClamp_pending (r : MeasureRecord) :
    (s.noteClamp r).pending = s.pending := by
  unfold State.noteClamp; repeat' split
  all_goals simp

@[simp] theorem State.noteClamp_timebase (r : MeasureRecord) :
    (s.noteClamp r).timebase = s.timebase := by
  unfold State.noteClamp; repeat' split
  all_goals simp

@[simp] theorem State.noteClamp_config (r : MeasureRecord) :
    (s.noteClamp r).config = s.config := by
  unfold State.noteClamp; repeat' split
  all_goals simp

@[simp] theorem State.noteClamp_ssv (r : MeasureRecord) :
    (s.noteClamp r).ssv = s.ssv := by
  unfold State.noteClamp; repeat' split
  all_goals simp

@[simp] theorem State.noteClamp_slc (r : MeasureRecord) :
    (s.noteClamp r).slc = s.slc := by
  unfold State.noteClamp; repeat' split
  all_goals simp

@[simp] theorem State.noteClamp_fsc (r : MeasureRecord) :
    (s.noteClamp r).fsc = s.fsc := by
  unfold State.noteClamp; repeat' split
  all_goals simp

@[simp] theorem State.noteClamp_ptb (r : MeasureRecord) :
    (s.noteClamp r).ptb = s.ptb := by
  unfold State.noteClamp; repeat' split
  all_goals simp

@[simp] theorem State.noteClamp_wcu (r : MeasureRecord) :
    (s.noteClamp r).wcu = s.wcu := by
  unfold State.noteClamp; repeat' split
  all_goals simp

@[simp] theorem State.noteClamp_slm (r : MeasureRecord) :
    (s.noteClamp r).slm = s.slm := by
  unfold State.noteClamp; repeat' split
  all_goals simp

@[simp] theorem State.noteClamp_spe (r : MeasureRecord) :
    (s.noteClamp r).spe = s.spe := by
  unfold State.noteClamp; repeat' split
  all_goals simp

@[simp] theorem State.noteClamp_cms (r : MeasureRecord) :
    (s.noteClamp r).cms = s.cms := by
  unfold State.noteClamp; repeat' split
  all_goals simp

/-! ## holdMeasure -/

@[simp] theorem State.holdMeasure_pending (m : Measure) :
    (s.holdMeasure m).pending = s.pending := by
  unfold State.holdMeasure; repeat' split
  all_goals simp

@[simp] theorem State.holdMeasure_timebase (m : Measure) :
    (s.holdMeasure m).timebase = s.timebase := by
  unfold State.holdMeasure; repeat' split
  all_goals simp

@[simp] theorem State.holdMeasure_config (m : Measure) :
    (s.holdMeasure m).config = s.config := by
  unfold State.holdMeasure; repeat' split
  all_goals simp

@[simp] theorem State.holdMeasure_ssv (m : Measure) :
    (s.holdMeasure m).ssv = s.ssv := by
  unfold State.holdMeasure; repeat' split
  all_goals simp

@[simp] theorem State.holdMeasure_slc (m : Measure) :
    (s.holdMeasure m).slc = s.slc := by
  unfold State.holdMeasure; repeat' split
  all_goals simp

@[simp] theorem State.holdMeasure_fsc (m : Measure) :
    (s.holdMeasure m).fsc = s.fsc := by
  unfold State.holdMeasure; repeat' split
  all_goals simp

@[simp] theorem State.holdMeasure_ptb (m : Measure) :
    (s.holdMeasure m).ptb = s.ptb := by
  unfold State.holdMeasure; repeat' split
  all_goals simp

@[simp] theorem State.holdMeasure_wcu (m : Measure) :
    (s.holdMeasure m).wcu = s.wcu := by
  unfold State.holdMeasure; repeat' split
  all_goals simp

@[simp] theorem State.holdMeasure_slm (m : Measure) :
    (s.holdMeasure m).slm = s.slm := by
  unfold State.holdMeasure; repeat' split
  all_goals simp

@[simp] theorem State.holdMeasure_spe (m : Measure) :
    (s.holdMeasure m).spe = s.spe := by
  unfold State.holdMeasure; repeat' split
  all_goals simp

@[simp] theorem State.holdMeasure_cms (m : Measure) :
    (s.holdMeasure m).cms = s.cms := by
  unfold State.holdMeasure; repeat' split
  all_goals simp

/-! ## acceptMeasure -/

@[simp] theorem State.acceptMeasure_pending (r : MeasureRecord) :
    (s.acceptMeasure r).pending = s.pending := by
  unfold State.acceptMeasure; dsimp only; repeat' split
  all_goals simp

@[simp] theorem State.acceptMeasure_timebase (r : MeasureRecord) :
    (s.acceptMeasure r).timebase = s.timebase := by
  unfold State.acceptMeasure; dsimp only; repeat' split
  all_goals simp

@[simp] theorem State.acceptMeasure_config (r : MeasureRecord) :
    (s.acceptMeasure r).config = s.config := by
  unfold State.acceptMeasure; dsimp only; repeat' split
  all_goals simp

@[simp] theorem State.acceptMeasure_slc (r : MeasureRecord) :
    (s.acceptMeasure r).slc = s.slc := by
  unfold State.acceptMeasure; dsimp only; repeat' split
  all_goals simp

@[simp] theorem State.acceptMeasure_fsc (r : MeasureRecord) :
    (s.acceptMeasure r).fsc = s.fsc := by
  unfold State.acceptMeasure; dsimp only; repeat' split
  all_goals simp

@[simp] theorem State.acceptMeasure_ptb (r : MeasureRecord) :
    (s.acceptMeasure r).ptb = s.ptb := by
  unfold State.acceptMeasure; dsimp only; repeat' split
  all_goals simp

@[simp] theorem State.acceptMeasure_wcu (r : MeasureRecord) :
    (s.acceptMeasure r).wcu = s.wcu := by
  unfold State.acceptMeasure; dsimp only; repeat' split
  all_goals simp

@[simp] theorem State.acceptMeasure_slm (r : MeasureRecord) :
    (s.acceptMeasure r).slm = s.slm := by
  unfold State.acceptMeasure; dsimp only; repeat' split
  all_goals simp

@[simp] theorem State.acceptMeasure_cms (r : MeasureRecord) :
    (s.acceptMeasure r).cms = s.cms := by
  unfold State.acceptMeasure; dsimp only; repeat' split
  all_goals simp

/-! ## resumeJoin -/

@[simp] theorem State.resumeJoin_pending :
    (s.resumeJoin).pending = s.pending := by
  simp [State.resumeJoin]

@[simp] theorem State.resumeJoin_timebase :
    (s.resumeJoin).timebase = s.timebase := by
  simp [State.resumeJoin]

@[simp] theorem State.resumeJoin_config :
    (s.resumeJoin).config = s.config := by
  simp [State.resumeJoin]

@[simp] theorem State.resumeJoin_ptb :
    (s.resumeJoin).ptb = s.ptb := by
  simp [State.resumeJoin]

@[simp] theorem State.resumeJoin_wcu :
    (s.resumeJoin).wcu = s.wcu := by
  simp [State.resumeJoin]

@[simp] theorem State.resumeJoin_slm :
    (s.resumeJoin).slm = s.slm := by
  simp [State.resumeJoin]

@[simp] theorem State.resumeJoin_spe :
    (s.resumeJoin).spe = s.spe := by
  simp [State.resumeJoin]

@[simp] theorem State.resumeJoin_cms :
    (s.resumeJoin).cms = s.cms := by
  simp [State.resumeJoin]

@[simp] theorem State.resumeJoin_lpt :
    (s.resumeJoin).lpt = s.lpt := by
  simp [State.resumeJoin]

/-! ## winClaim -/

@[simp] theorem State.winClaim_pending (t : TransmitFrame) :
    (s.winClaim t).pending = s.pending := by
  unfold State.winClaim; repeat' split
  all_goals simp

@[simp] theorem State.winClaim_timebase (t : TransmitFrame) :
    (s.winClaim t).timebase = s.timebase := by
  unfold State.winClaim; repeat' split
  all_goals simp

@[simp] theorem State.winClaim_config (t : TransmitFrame) :
    (s.winClaim t).config = s.config := by
  unfold State.winClaim; repeat' split
  all_goals simp

@[simp] theorem State.winClaim_ssv (t : TransmitFrame) :
    (s.winClaim t).ssv = s.ssv := by
  unfold State.winClaim; repeat' split
  all_goals simp

@[simp] theorem State.winClaim_ptb (t : TransmitFrame) :
    (s.winClaim t).ptb = s.ptb := by
  unfold State.winClaim; repeat' split
  all_goals simp

@[simp] theorem State.winClaim_wcu (t : TransmitFrame) :
    (s.winClaim t).wcu = s.wcu := by
  unfold State.winClaim; repeat' split
  all_goals simp

@[simp] theorem State.winClaim_slm (t : TransmitFrame) :
    (s.winClaim t).slm = s.slm := by
  unfold State.winClaim; repeat' split
  all_goals simp

@[simp] theorem State.winClaim_spe (t : TransmitFrame) :
    (s.winClaim t).spe = s.spe := by
  unfold State.winClaim; repeat' split
  all_goals simp

@[simp] theorem State.winClaim_cms (t : TransmitFrame) :
    (s.winClaim t).cms = s.cms := by
  unfold State.winClaim; repeat' split
  all_goals simp

@[simp] theorem State.winClaim_lpt (t : TransmitFrame) :
    (s.winClaim t).lpt = s.lpt := by
  unfold State.winClaim; repeat' split
  all_goals simp

/-! ## reportSent -/

@[simp] theorem State.reportSent_pending (f : OwnFrame) :
    (s.reportSent f).pending = s.pending := by
  unfold State.reportSent; dsimp only; repeat' split
  all_goals simp

@[simp] theorem State.reportSent_timebase (f : OwnFrame) :
    (s.reportSent f).timebase = s.timebase := by
  unfold State.reportSent; dsimp only; repeat' split
  all_goals simp

@[simp] theorem State.reportSent_config (f : OwnFrame) :
    (s.reportSent f).config = s.config := by
  unfold State.reportSent; dsimp only; repeat' split
  all_goals simp

@[simp] theorem State.reportSent_slc (f : OwnFrame) :
    (s.reportSent f).slc = s.slc := by
  unfold State.reportSent; dsimp only; repeat' split
  all_goals simp

@[simp] theorem State.reportSent_ptb (f : OwnFrame) :
    (s.reportSent f).ptb = s.ptb := by
  unfold State.reportSent; dsimp only; repeat' split
  all_goals simp

@[simp] theorem State.reportSent_wcu (f : OwnFrame) :
    (s.reportSent f).wcu = s.wcu := by
  unfold State.reportSent; dsimp only; repeat' split
  all_goals simp

@[simp] theorem State.reportSent_spe (f : OwnFrame) :
    (s.reportSent f).spe = s.spe := by
  unfold State.reportSent; dsimp only; repeat' split
  all_goals simp

@[simp] theorem State.reportSent_cms (f : OwnFrame) :
    (s.reportSent f).cms = s.cms := by
  unfold State.reportSent; dsimp only; repeat' split
  all_goals simp

@[simp] theorem State.reportSent_lpt (f : OwnFrame) :
    (s.reportSent f).lpt = s.lpt := by
  unfold State.reportSent; dsimp only; repeat' split
  all_goals simp

/-! ## dropFrame -/

@[simp] theorem State.dropFrame_pending (t : TransmitFrame) :
    (s.dropFrame t).pending = s.pending := by
  unfold State.dropFrame; dsimp only; repeat' split
  all_goals simp

@[simp] theorem State.dropFrame_timebase (t : TransmitFrame) :
    (s.dropFrame t).timebase = s.timebase := by
  unfold State.dropFrame; dsimp only; repeat' split
  all_goals simp

@[simp] theorem State.dropFrame_config (t : TransmitFrame) :
    (s.dropFrame t).config = s.config := by
  unfold State.dropFrame; dsimp only; repeat' split
  all_goals simp

@[simp] theorem State.dropFrame_ptb (t : TransmitFrame) :
    (s.dropFrame t).ptb = s.ptb := by
  unfold State.dropFrame; dsimp only; repeat' split
  all_goals simp

@[simp] theorem State.dropFrame_wcu (t : TransmitFrame) :
    (s.dropFrame t).wcu = s.wcu := by
  unfold State.dropFrame; dsimp only; repeat' split
  all_goals simp

@[simp] theorem State.dropFrame_spe (t : TransmitFrame) :
    (s.dropFrame t).spe = s.spe := by
  unfold State.dropFrame; dsimp only; repeat' split
  all_goals simp

/-! ## linkReset -/

@[simp] theorem State.linkReset_pending :
    (s.linkReset).pending = s.pending := rfl

@[simp] theorem State.linkReset_timebase :
    (s.linkReset).timebase = s.timebase := rfl

@[simp] theorem State.linkReset_config :
    (s.linkReset).config = s.config := rfl

@[simp] theorem State.linkReset_wcu :
    (s.linkReset).wcu = s.wcu := rfl

/-! ## applyDemand -/

@[simp] theorem State.applyDemand_pending (q : Seq) (c : DemandContent) :
    (s.applyDemand q c).pending = s.pending := by
  unfold State.applyDemand; repeat' split
  all_goals simp

@[simp] theorem State.applyDemand_timebase (q : Seq) (c : DemandContent) :
    (s.applyDemand q c).timebase = s.timebase := by
  unfold State.applyDemand; repeat' split
  all_goals simp

@[simp] theorem State.applyDemand_config (q : Seq) (c : DemandContent) :
    (s.applyDemand q c).config = s.config := by
  unfold State.applyDemand; repeat' split
  all_goals simp

@[simp] theorem State.applyDemand_ssv (q : Seq) (c : DemandContent) :
    (s.applyDemand q c).ssv = s.ssv := by
  unfold State.applyDemand; repeat' split
  all_goals simp

@[simp] theorem State.applyDemand_slc (q : Seq) (c : DemandContent) :
    (s.applyDemand q c).slc = s.slc := by
  unfold State.applyDemand; repeat' split
  all_goals simp

@[simp] theorem State.applyDemand_fsc (q : Seq) (c : DemandContent) :
    (s.applyDemand q c).fsc = s.fsc := by
  unfold State.applyDemand; repeat' split
  all_goals simp

@[simp] theorem State.applyDemand_wcu (q : Seq) (c : DemandContent) :
    (s.applyDemand q c).wcu = s.wcu := by
  unfold State.applyDemand; repeat' split
  all_goals simp

@[simp] theorem State.applyDemand_slm (q : Seq) (c : DemandContent) :
    (s.applyDemand q c).slm = s.slm := by
  unfold State.applyDemand; repeat' split
  all_goals simp

@[simp] theorem State.applyDemand_spe (q : Seq) (c : DemandContent) :
    (s.applyDemand q c).spe = s.spe := by
  unfold State.applyDemand; repeat' split
  all_goals simp

@[simp] theorem State.applyDemand_cms (q : Seq) (c : DemandContent) :
    (s.applyDemand q c).cms = s.cms := by
  unfold State.applyDemand; repeat' split
  all_goals simp

/-! ## deliverDemand -/

@[simp] theorem State.deliverDemand_pending (h : FrameHeader) (p : DemandPayload) :
    (s.deliverDemand h p).pending = s.pending := by
  unfold State.deliverDemand; repeat' split
  all_goals simp

@[simp] theorem State.deliverDemand_timebase (h : FrameHeader) (p : DemandPayload) :
    (s.deliverDemand h p).timebase = s.timebase := by
  unfold State.deliverDemand; repeat' split
  all_goals simp

@[simp] theorem State.deliverDemand_config (h : FrameHeader) (p : DemandPayload) :
    (s.deliverDemand h p).config = s.config := by
  unfold State.deliverDemand; repeat' split
  all_goals simp

@[simp] theorem State.deliverDemand_ssv (h : FrameHeader) (p : DemandPayload) :
    (s.deliverDemand h p).ssv = s.ssv := by
  unfold State.deliverDemand; repeat' split
  all_goals simp

@[simp] theorem State.deliverDemand_fsc (h : FrameHeader) (p : DemandPayload) :
    (s.deliverDemand h p).fsc = s.fsc := by
  unfold State.deliverDemand; repeat' split
  all_goals simp

@[simp] theorem State.deliverDemand_wcu (h : FrameHeader) (p : DemandPayload) :
    (s.deliverDemand h p).wcu = s.wcu := by
  unfold State.deliverDemand; repeat' split
  all_goals simp

@[simp] theorem State.deliverDemand_slm (h : FrameHeader) (p : DemandPayload) :
    (s.deliverDemand h p).slm = s.slm := by
  unfold State.deliverDemand; repeat' split
  all_goals simp

@[simp] theorem State.deliverDemand_spe (h : FrameHeader) (p : DemandPayload) :
    (s.deliverDemand h p).spe = s.spe := by
  unfold State.deliverDemand; repeat' split
  all_goals simp

@[simp] theorem State.deliverDemand_cms (h : FrameHeader) (p : DemandPayload) :
    (s.deliverDemand h p).cms = s.cms := by
  unfold State.deliverDemand; repeat' split
  all_goals simp

/-! ## applyStatus -/

@[simp] theorem State.applyStatus_pending (n : StationNumber) (q : Seq) (c : StatusContent) :
    (s.applyStatus n q c).pending = s.pending := by
  simp [State.applyStatus]

@[simp] theorem State.applyStatus_timebase (n : StationNumber) (q : Seq) (c : StatusContent) :
    (s.applyStatus n q c).timebase = s.timebase := by
  simp [State.applyStatus]

@[simp] theorem State.applyStatus_config (n : StationNumber) (q : Seq) (c : StatusContent) :
    (s.applyStatus n q c).config = s.config := by
  simp [State.applyStatus]

@[simp] theorem State.applyStatus_ssv (n : StationNumber) (q : Seq) (c : StatusContent) :
    (s.applyStatus n q c).ssv = s.ssv := by
  simp [State.applyStatus]

@[simp] theorem State.applyStatus_slc (n : StationNumber) (q : Seq) (c : StatusContent) :
    (s.applyStatus n q c).slc = s.slc := by
  simp [State.applyStatus]

@[simp] theorem State.applyStatus_fsc (n : StationNumber) (q : Seq) (c : StatusContent) :
    (s.applyStatus n q c).fsc = s.fsc := by
  simp [State.applyStatus]

@[simp] theorem State.applyStatus_wcu (n : StationNumber) (q : Seq) (c : StatusContent) :
    (s.applyStatus n q c).wcu = s.wcu := by
  simp [State.applyStatus]

@[simp] theorem State.applyStatus_slm (n : StationNumber) (q : Seq) (c : StatusContent) :
    (s.applyStatus n q c).slm = s.slm := by
  simp [State.applyStatus]

@[simp] theorem State.applyStatus_spe (n : StationNumber) (q : Seq) (c : StatusContent) :
    (s.applyStatus n q c).spe = s.spe := by
  simp [State.applyStatus]

@[simp] theorem State.applyStatus_cms (n : StationNumber) (q : Seq) (c : StatusContent) :
    (s.applyStatus n q c).cms = s.cms := by
  simp [State.applyStatus]

/-! ## deliverStatus -/

@[simp] theorem State.deliverStatus_pending (h : FrameHeader) (p : StatusPayload) :
    (s.deliverStatus h p).pending = s.pending := by
  unfold State.deliverStatus; repeat' split
  all_goals simp

@[simp] theorem State.deliverStatus_timebase (h : FrameHeader) (p : StatusPayload) :
    (s.deliverStatus h p).timebase = s.timebase := by
  unfold State.deliverStatus; repeat' split
  all_goals simp

@[simp] theorem State.deliverStatus_config (h : FrameHeader) (p : StatusPayload) :
    (s.deliverStatus h p).config = s.config := by
  unfold State.deliverStatus; repeat' split
  all_goals simp

@[simp] theorem State.deliverStatus_wcu (h : FrameHeader) (p : StatusPayload) :
    (s.deliverStatus h p).wcu = s.wcu := by
  unfold State.deliverStatus; repeat' split
  all_goals simp

@[simp] theorem State.deliverStatus_spe (h : FrameHeader) (p : StatusPayload) :
    (s.deliverStatus h p).spe = s.spe := by
  unfold State.deliverStatus; repeat' split
  all_goals simp

/-! ## applySlipAlert -/

@[simp] theorem State.applySlipAlert_pending (n : StationNumber) (q : Seq) (a : SlipAlert) :
    (s.applySlipAlert n q a).pending = s.pending := by
  simp [State.applySlipAlert]

@[simp] theorem State.applySlipAlert_timebase (n : StationNumber) (q : Seq) (a : SlipAlert) :
    (s.applySlipAlert n q a).timebase = s.timebase := by
  simp [State.applySlipAlert]

@[simp] theorem State.applySlipAlert_config (n : StationNumber) (q : Seq) (a : SlipAlert) :
    (s.applySlipAlert n q a).config = s.config := by
  simp [State.applySlipAlert]

@[simp] theorem State.applySlipAlert_ssv (n : StationNumber) (q : Seq) (a : SlipAlert) :
    (s.applySlipAlert n q a).ssv = s.ssv := by
  simp [State.applySlipAlert]

@[simp] theorem State.applySlipAlert_slc (n : StationNumber) (q : Seq) (a : SlipAlert) :
    (s.applySlipAlert n q a).slc = s.slc := by
  simp [State.applySlipAlert]

@[simp] theorem State.applySlipAlert_fsc (n : StationNumber) (q : Seq) (a : SlipAlert) :
    (s.applySlipAlert n q a).fsc = s.fsc := by
  simp [State.applySlipAlert]

@[simp] theorem State.applySlipAlert_wcu (n : StationNumber) (q : Seq) (a : SlipAlert) :
    (s.applySlipAlert n q a).wcu = s.wcu := by
  simp [State.applySlipAlert]

@[simp] theorem State.applySlipAlert_slm (n : StationNumber) (q : Seq) (a : SlipAlert) :
    (s.applySlipAlert n q a).slm = s.slm := by
  simp [State.applySlipAlert]

@[simp] theorem State.applySlipAlert_spe (n : StationNumber) (q : Seq) (a : SlipAlert) :
    (s.applySlipAlert n q a).spe = s.spe := by
  simp [State.applySlipAlert]

@[simp] theorem State.applySlipAlert_cms (n : StationNumber) (q : Seq) (a : SlipAlert) :
    (s.applySlipAlert n q a).cms = s.cms := by
  simp [State.applySlipAlert]

@[simp] theorem State.applySlipAlert_lpt (n : StationNumber) (q : Seq) (a : SlipAlert) :
    (s.applySlipAlert n q a).lpt = s.lpt := by
  simp [State.applySlipAlert]

/-! ## deliverSlipAlert -/

@[simp] theorem State.deliverSlipAlert_pending (h : FrameHeader) (p : SlipAlertPayload) :
    (s.deliverSlipAlert h p).pending = s.pending := by
  unfold State.deliverSlipAlert; repeat' split
  all_goals simp

@[simp] theorem State.deliverSlipAlert_timebase (h : FrameHeader) (p : SlipAlertPayload) :
    (s.deliverSlipAlert h p).timebase = s.timebase := by
  unfold State.deliverSlipAlert; repeat' split
  all_goals simp

@[simp] theorem State.deliverSlipAlert_config (h : FrameHeader) (p : SlipAlertPayload) :
    (s.deliverSlipAlert h p).config = s.config := by
  unfold State.deliverSlipAlert; repeat' split
  all_goals simp

@[simp] theorem State.deliverSlipAlert_wcu (h : FrameHeader) (p : SlipAlertPayload) :
    (s.deliverSlipAlert h p).wcu = s.wcu := by
  unfold State.deliverSlipAlert; repeat' split
  all_goals simp

@[simp] theorem State.deliverSlipAlert_spe (h : FrameHeader) (p : SlipAlertPayload) :
    (s.deliverSlipAlert h p).spe = s.spe := by
  unfold State.deliverSlipAlert; repeat' split
  all_goals simp

/-! ## applyFault -/

@[simp] theorem State.applyFault_pending (n : StationNumber) (q : Seq) (c : FaultCause) :
    (s.applyFault n q c).pending = s.pending := by
  simp [State.applyFault]

@[simp] theorem State.applyFault_timebase (n : StationNumber) (q : Seq) (c : FaultCause) :
    (s.applyFault n q c).timebase = s.timebase := by
  simp [State.applyFault]

@[simp] theorem State.applyFault_config (n : StationNumber) (q : Seq) (c : FaultCause) :
    (s.applyFault n q c).config = s.config := by
  simp [State.applyFault]

@[simp] theorem State.applyFault_ssv (n : StationNumber) (q : Seq) (c : FaultCause) :
    (s.applyFault n q c).ssv = s.ssv := by
  simp [State.applyFault]

@[simp] theorem State.applyFault_slc (n : StationNumber) (q : Seq) (c : FaultCause) :
    (s.applyFault n q c).slc = s.slc := by
  simp [State.applyFault]

@[simp] theorem State.applyFault_fsc (n : StationNumber) (q : Seq) (c : FaultCause) :
    (s.applyFault n q c).fsc = s.fsc := by
  simp [State.applyFault]

@[simp] theorem State.applyFault_wcu (n : StationNumber) (q : Seq) (c : FaultCause) :
    (s.applyFault n q c).wcu = s.wcu := by
  simp [State.applyFault]

@[simp] theorem State.applyFault_slm (n : StationNumber) (q : Seq) (c : FaultCause) :
    (s.applyFault n q c).slm = s.slm := by
  simp [State.applyFault]

@[simp] theorem State.applyFault_spe (n : StationNumber) (q : Seq) (c : FaultCause) :
    (s.applyFault n q c).spe = s.spe := by
  simp [State.applyFault]

@[simp] theorem State.applyFault_cms (n : StationNumber) (q : Seq) (c : FaultCause) :
    (s.applyFault n q c).cms = s.cms := by
  simp [State.applyFault]

/-! ## deliverFault -/

@[simp] theorem State.deliverFault_pending (h : FrameHeader) (p : FaultPayload) :
    (s.deliverFault h p).pending = s.pending := by
  unfold State.deliverFault; repeat' split
  all_goals simp

@[simp] theorem State.deliverFault_timebase (h : FrameHeader) (p : FaultPayload) :
    (s.deliverFault h p).timebase = s.timebase := by
  unfold State.deliverFault; repeat' split
  all_goals simp

@[simp] theorem State.deliverFault_config (h : FrameHeader) (p : FaultPayload) :
    (s.deliverFault h p).config = s.config := by
  unfold State.deliverFault; repeat' split
  all_goals simp

@[simp] theorem State.deliverFault_wcu (h : FrameHeader) (p : FaultPayload) :
    (s.deliverFault h p).wcu = s.wcu := by
  unfold State.deliverFault; repeat' split
  all_goals simp

@[simp] theorem State.deliverFault_spe (h : FrameHeader) (p : FaultPayload) :
    (s.deliverFault h p).spe = s.spe := by
  unfold State.deliverFault; repeat' split
  all_goals simp

/-! ## publish -/

@[simp] theorem State.publish_pending :
    (s.publish).pending = s.pending := by
  simp [State.publish]

@[simp] theorem State.publish_timebase :
    (s.publish).timebase = s.timebase := by
  simp [State.publish]

@[simp] theorem State.publish_config :
    (s.publish).config = s.config := by
  simp [State.publish]

@[simp] theorem State.publish_ssv :
    (s.publish).ssv = s.ssv := by
  simp [State.publish]

@[simp] theorem State.publish_ptb :
    (s.publish).ptb = s.ptb := by
  simp [State.publish]

@[simp] theorem State.publish_wcu :
    (s.publish).wcu = s.wcu := by
  simp [State.publish]

@[simp] theorem State.publish_slm :
    (s.publish).slm = s.slm := by
  simp [State.publish]

@[simp] theorem State.publish_spe :
    (s.publish).spe = s.spe := by
  simp [State.publish]

@[simp] theorem State.publish_cms :
    (s.publish).cms = s.cms := by
  simp [State.publish]

@[simp] theorem State.publish_lpt :
    (s.publish).lpt = s.lpt := by
  simp [State.publish]

/-! ## measureExpired -/

@[simp] theorem State.measureExpired_pending :
    (s.measureExpired).pending = s.pending := by
  unfold State.measureExpired; repeat' split
  all_goals simp

@[simp] theorem State.measureExpired_timebase :
    (s.measureExpired).timebase = s.timebase := by
  unfold State.measureExpired; repeat' split
  all_goals simp

@[simp] theorem State.measureExpired_config :
    (s.measureExpired).config = s.config := by
  unfold State.measureExpired; repeat' split
  all_goals simp

@[simp] theorem State.measureExpired_ptb :
    (s.measureExpired).ptb = s.ptb := by
  unfold State.measureExpired; repeat' split
  all_goals simp

@[simp] theorem State.measureExpired_wcu :
    (s.measureExpired).wcu = s.wcu := by
  unfold State.measureExpired; repeat' split
  all_goals simp

@[simp] theorem State.measureExpired_spe :
    (s.measureExpired).spe = s.spe := by
  unfold State.measureExpired; repeat' split
  all_goals simp

/-! ## reportSag -/

@[simp] theorem State.reportSag_pending (b : SagState) (v : Nat) :
    (s.reportSag b v).pending = s.pending := by
  unfold State.reportSag; repeat' split
  all_goals simp

@[simp] theorem State.reportSag_timebase (b : SagState) (v : Nat) :
    (s.reportSag b v).timebase = s.timebase := by
  unfold State.reportSag; repeat' split
  all_goals simp

@[simp] theorem State.reportSag_config (b : SagState) (v : Nat) :
    (s.reportSag b v).config = s.config := by
  unfold State.reportSag; repeat' split
  all_goals simp

@[simp] theorem State.reportSag_ssv (b : SagState) (v : Nat) :
    (s.reportSag b v).ssv = s.ssv := by
  unfold State.reportSag; repeat' split
  all_goals simp

@[simp] theorem State.reportSag_slc (b : SagState) (v : Nat) :
    (s.reportSag b v).slc = s.slc := by
  unfold State.reportSag; repeat' split
  all_goals simp

@[simp] theorem State.reportSag_fsc (b : SagState) (v : Nat) :
    (s.reportSag b v).fsc = s.fsc := by
  unfold State.reportSag; repeat' split
  all_goals simp

@[simp] theorem State.reportSag_ptb (b : SagState) (v : Nat) :
    (s.reportSag b v).ptb = s.ptb := by
  unfold State.reportSag; repeat' split
  all_goals simp

@[simp] theorem State.reportSag_wcu (b : SagState) (v : Nat) :
    (s.reportSag b v).wcu = s.wcu := by
  unfold State.reportSag; repeat' split
  all_goals simp

@[simp] theorem State.reportSag_slm (b : SagState) (v : Nat) :
    (s.reportSag b v).slm = s.slm := by
  unfold State.reportSag; repeat' split
  all_goals simp

@[simp] theorem State.reportSag_spe (b : SagState) (v : Nat) :
    (s.reportSag b v).spe = s.spe := by
  unfold State.reportSag; repeat' split
  all_goals simp

@[simp] theorem State.reportSag_cms (b : SagState) (v : Nat) :
    (s.reportSag b v).cms = s.cms := by
  unfold State.reportSag; repeat' split
  all_goals simp

/-! ## chain -/

@[simp] theorem State.chain_pending :
    (s.chain).pending = s.pending := by
  unfold State.chain; repeat' split
  all_goals simp

@[simp] theorem State.chain_timebase :
    (s.chain).timebase = s.timebase := by
  unfold State.chain; repeat' split
  all_goals simp

@[simp] theorem State.chain_config :
    (s.chain).config = s.config := by
  unfold State.chain; repeat' split
  all_goals simp

@[simp] theorem State.chain_ssv :
    (s.chain).ssv = s.ssv := by
  unfold State.chain; repeat' split
  all_goals simp

@[simp] theorem State.chain_slc :
    (s.chain).slc = s.slc := by
  unfold State.chain; repeat' split
  all_goals simp

@[simp] theorem State.chain_fsc :
    (s.chain).fsc = s.fsc := by
  unfold State.chain; repeat' split
  all_goals simp

@[simp] theorem State.chain_ptb :
    (s.chain).ptb = s.ptb := by
  unfold State.chain; repeat' split
  all_goals simp

@[simp] theorem State.chain_wcu :
    (s.chain).wcu = s.wcu := by
  unfold State.chain; repeat' split
  all_goals simp

@[simp] theorem State.chain_slm :
    (s.chain).slm = s.slm := by
  unfold State.chain; repeat' split
  all_goals simp

@[simp] theorem State.chain_cms :
    (s.chain).cms = s.cms := by
  unfold State.chain; repeat' split
  all_goals simp

/-! ## complete -/

@[simp] theorem State.complete_pending (sn : Snapshot) :
    (s.complete sn).pending = s.pending := by
  simp [State.complete]

@[simp] theorem State.complete_timebase (sn : Snapshot) :
    (s.complete sn).timebase = s.timebase := by
  simp [State.complete]

@[simp] theorem State.complete_config (sn : Snapshot) :
    (s.complete sn).config = s.config := by
  simp [State.complete]

@[simp] theorem State.complete_ssv (sn : Snapshot) :
    (s.complete sn).ssv = s.ssv := by
  simp [State.complete]

@[simp] theorem State.complete_slc (sn : Snapshot) :
    (s.complete sn).slc = s.slc := by
  simp [State.complete]

@[simp] theorem State.complete_fsc (sn : Snapshot) :
    (s.complete sn).fsc = s.fsc := by
  simp [State.complete]

@[simp] theorem State.complete_ptb (sn : Snapshot) :
    (s.complete sn).ptb = s.ptb := by
  simp [State.complete]

@[simp] theorem State.complete_wcu (sn : Snapshot) :
    (s.complete sn).wcu = s.wcu := by
  simp [State.complete]

@[simp] theorem State.complete_slm (sn : Snapshot) :
    (s.complete sn).slm = s.slm := by
  simp [State.complete]

/-! ## wheelEdge -/

@[simp] theorem State.wheelEdge_pending (ch : Channel) (time : TimeStamp) :
    (s.wheelEdge ch time).pending = s.pending := rfl

@[simp] theorem State.wheelEdge_config (ch : Channel) (time : TimeStamp) :
    (s.wheelEdge ch time).config = s.config := rfl

@[simp] theorem State.wheelEdge_ssv (ch : Channel) (time : TimeStamp) :
    (s.wheelEdge ch time).ssv = s.ssv := rfl

@[simp] theorem State.wheelEdge_slc (ch : Channel) (time : TimeStamp) :
    (s.wheelEdge ch time).slc = s.slc := rfl

@[simp] theorem State.wheelEdge_fsc (ch : Channel) (time : TimeStamp) :
    (s.wheelEdge ch time).fsc = s.fsc := rfl

@[simp] theorem State.wheelEdge_ptb (ch : Channel) (time : TimeStamp) :
    (s.wheelEdge ch time).ptb = s.ptb := rfl

@[simp] theorem State.wheelEdge_slm (ch : Channel) (time : TimeStamp) :
    (s.wheelEdge ch time).slm = s.slm := rfl

@[simp] theorem State.wheelEdge_spe (ch : Channel) (time : TimeStamp) :
    (s.wheelEdge ch time).spe = s.spe := rfl

@[simp] theorem State.wheelEdge_cms (ch : Channel) (time : TimeStamp) :
    (s.wheelEdge ch time).cms = s.cms := rfl

@[simp] theorem State.wheelEdge_lpt (ch : Channel) (time : TimeStamp) :
    (s.wheelEdge ch time).lpt = s.lpt := rfl

/-! ## slipEvent -/

@[simp] theorem State.slipEvent_pending (m : Monitor) (n : Nat) :
    (s.slipEvent m n).pending = s.pending := by
  simp [State.slipEvent]

@[simp] theorem State.slipEvent_timebase (m : Monitor) (n : Nat) :
    (s.slipEvent m n).timebase = s.timebase := by
  simp [State.slipEvent]

@[simp] theorem State.slipEvent_config (m : Monitor) (n : Nat) :
    (s.slipEvent m n).config = s.config := by
  simp [State.slipEvent]

@[simp] theorem State.slipEvent_ssv (m : Monitor) (n : Nat) :
    (s.slipEvent m n).ssv = s.ssv := by
  simp [State.slipEvent]

@[simp] theorem State.slipEvent_ptb (m : Monitor) (n : Nat) :
    (s.slipEvent m n).ptb = s.ptb := by
  simp [State.slipEvent]

@[simp] theorem State.slipEvent_wcu (m : Monitor) (n : Nat) :
    (s.slipEvent m n).wcu = s.wcu := by
  simp [State.slipEvent]

@[simp] theorem State.slipEvent_spe (m : Monitor) (n : Nat) :
    (s.slipEvent m n).spe = s.spe := by
  simp [State.slipEvent]

/-! ## judge -/

@[simp] theorem State.judge_pending (m : Monitor) (n : Nat) :
    (s.judge m n).pending = s.pending := by
  unfold State.judge; repeat' split
  all_goals simp

@[simp] theorem State.judge_timebase (m : Monitor) (n : Nat) :
    (s.judge m n).timebase = s.timebase := by
  unfold State.judge; repeat' split
  all_goals simp

@[simp] theorem State.judge_config (m : Monitor) (n : Nat) :
    (s.judge m n).config = s.config := by
  unfold State.judge; repeat' split
  all_goals simp

@[simp] theorem State.judge_ssv (m : Monitor) (n : Nat) :
    (s.judge m n).ssv = s.ssv := by
  unfold State.judge; repeat' split
  all_goals simp

@[simp] theorem State.judge_ptb (m : Monitor) (n : Nat) :
    (s.judge m n).ptb = s.ptb := by
  unfold State.judge; repeat' split
  all_goals simp

@[simp] theorem State.judge_wcu (m : Monitor) (n : Nat) :
    (s.judge m n).wcu = s.wcu := by
  unfold State.judge; repeat' split
  all_goals simp

@[simp] theorem State.judge_spe (m : Monitor) (n : Nat) :
    (s.judge m n).spe = s.spe := by
  unfold State.judge; repeat' split
  all_goals simp

/-! ## sample -/

@[simp] theorem State.sample_pending :
    (s.sample).pending = s.pending := by
  unfold State.sample; dsimp only; repeat' split
  all_goals simp

@[simp] theorem State.sample_timebase :
    (s.sample).timebase = s.timebase := by
  unfold State.sample; dsimp only; repeat' split
  all_goals simp

@[simp] theorem State.sample_config :
    (s.sample).config = s.config := by
  unfold State.sample; dsimp only; repeat' split
  all_goals simp

@[simp] theorem State.sample_ssv :
    (s.sample).ssv = s.ssv := by
  unfold State.sample; dsimp only; repeat' split
  all_goals simp

@[simp] theorem State.sample_ptb :
    (s.sample).ptb = s.ptb := by
  unfold State.sample; dsimp only; repeat' split
  all_goals simp

@[simp] theorem State.sample_wcu :
    (s.sample).wcu = s.wcu := by
  unfold State.sample; dsimp only; repeat' split
  all_goals simp

@[simp] theorem State.sample_spe :
    (s.sample).spe = s.spe := by
  unfold State.sample; dsimp only; repeat' split
  all_goals simp

/-! ## afterRecovery -/

@[simp] theorem State.afterRecovery_pending (m : Monitor) :
    (s.afterRecovery m).pending = s.pending := by
  unfold State.afterRecovery; dsimp only; repeat' split
  all_goals simp

@[simp] theorem State.afterRecovery_timebase (m : Monitor) :
    (s.afterRecovery m).timebase = s.timebase := by
  unfold State.afterRecovery; dsimp only; repeat' split
  all_goals simp

@[simp] theorem State.afterRecovery_config (m : Monitor) :
    (s.afterRecovery m).config = s.config := by
  unfold State.afterRecovery; dsimp only; repeat' split
  all_goals simp

@[simp] theorem State.afterRecovery_ssv (m : Monitor) :
    (s.afterRecovery m).ssv = s.ssv := by
  unfold State.afterRecovery; dsimp only; repeat' split
  all_goals simp

@[simp] theorem State.afterRecovery_slc (m : Monitor) :
    (s.afterRecovery m).slc = s.slc := by
  unfold State.afterRecovery; dsimp only; repeat' split
  all_goals simp

@[simp] theorem State.afterRecovery_fsc (m : Monitor) :
    (s.afterRecovery m).fsc = s.fsc := by
  unfold State.afterRecovery; dsimp only; repeat' split
  all_goals simp

@[simp] theorem State.afterRecovery_ptb (m : Monitor) :
    (s.afterRecovery m).ptb = s.ptb := by
  unfold State.afterRecovery; dsimp only; repeat' split
  all_goals simp

@[simp] theorem State.afterRecovery_wcu (m : Monitor) :
    (s.afterRecovery m).wcu = s.wcu := by
  unfold State.afterRecovery; dsimp only; repeat' split
  all_goals simp

@[simp] theorem State.afterRecovery_spe (m : Monitor) :
    (s.afterRecovery m).spe = s.spe := by
  unfold State.afterRecovery; dsimp only; repeat' split
  all_goals simp

@[simp] theorem State.afterRecovery_cms (m : Monitor) :
    (s.afterRecovery m).cms = s.cms := by
  unfold State.afterRecovery; dsimp only; repeat' split
  all_goals simp

end Sys2Proof.Machine
end

