-- ==== Sys2Proof/Laws/Ops.lean ====
section
/-! SUPPORT. What each shared operation can do, said once: later proofs cite these lemmas and do not unfold the operation. -/

namespace Sys2Proof.Machine

variable (s : State)

/-! ## Local port -/

theorem State.notify_lpt (k : NoticeKind) (st : Option StationNumber) (v : Option Nat) :
    (s.notify k st v).lpt = (s.lpt.join ⟨k, st, v, s.lpt.msCount⟩ s.interimTime).setNtc s.noticeThreshold := rfl

theorem State.notifyTable_none (n : StationNumber) : s.notifyTable n none = s := rfl

theorem State.notifyTable_some (n : StationNumber) (t : TableNotice) :
    s.notifyTable n (some t) = s.notify t.kind (some n) t.value := rfl

theorem State.notifyTable_cases (n : StationNumber) (o : Option TableNotice) :
    s.notifyTable n o = s ∨ ∃ k v, s.notifyTable n o = s.notify k (some n) v := by
  cases o with
  | none => exact .inl rfl
  | some t => exact .inr ⟨t.kind, t.value, rfl⟩

theorem State.place_lpt (r : Reply) : (s.place r).lpt = { s.lpt with reply := some r } := rfl

theorem State.endExchange_lpt : s.endExchange.lpt = { s.lpt with inExchange := false, received := [] } := rfl

/-- A notice joins at the tail with room in the queue (R171), and starts the interim timer of an empty one (R172). -/
theorem LocalPort.join_room (l : LocalPort) (n : Notice) (ms : Option Nat) (h : l.notices.length < 16) :
    l.join n ms =
      { l with
        notices := l.notices ++ [n]
        interim :=
          match ms with
          | some t => if l.notices = [] then .running t else l.interim
          | none => l.interim } := by
  cases ms <;> simp [LocalPort.join, Config.noticeCapacity, h]

/-- A notice is dropped and counted at a full queue (R171). -/
theorem LocalPort.join_full (l : LocalPort) (n : Notice) (ms : Option Nat) (h : 16 ≤ l.notices.length) :
    l.join n ms = { l with noticesLost := min 255 (l.noticesLost + 1) } := by
  simp [LocalPort.join, Config.noticeCapacity, Nat.not_lt.mpr h, countUp, Config.counterMax]

/-! ## The fields of the local port a notice leaves alone -/

@[simp] theorem LocalPort.join_inExchange (l : LocalPort) (n : Notice) (ms : Option Nat) : (l.join n ms).inExchange = l.inExchange := by
  unfold LocalPort.join; split <;> rfl

@[simp] theorem State.notify_inExchange (k : NoticeKind) (st : Option StationNumber) (v : Option Nat) :
    (s.notify k st v).lpt.inExchange = s.lpt.inExchange := LocalPort.join_inExchange s.lpt _ _

@[simp] theorem LocalPort.join_received (l : LocalPort) (n : Notice) (ms : Option Nat) : (l.join n ms).received = l.received := by
  unfold LocalPort.join; split <;> rfl

@[simp] theorem State.notify_received (k : NoticeKind) (st : Option StationNumber) (v : Option Nat) :
    (s.notify k st v).lpt.received = s.lpt.received := LocalPort.join_received s.lpt _ _

@[simp] theorem LocalPort.join_holding (l : LocalPort) (n : Notice) (ms : Option Nat) : (l.join n ms).holding = l.holding := by
  unfold LocalPort.join; split <;> rfl

@[simp] theorem State.notify_holding (k : NoticeKind) (st : Option StationNumber) (v : Option Nat) :
    (s.notify k st v).lpt.holding = s.lpt.holding := LocalPort.join_holding s.lpt _ _

@[simp] theorem LocalPort.join_reply (l : LocalPort) (n : Notice) (ms : Option Nat) : (l.join n ms).reply = l.reply := by
  unfold LocalPort.join; split <;> rfl

@[simp] theorem State.notify_reply (k : NoticeKind) (st : Option StationNumber) (v : Option Nat) :
    (s.notify k st v).lpt.reply = s.lpt.reply := LocalPort.join_reply s.lpt _ _

@[simp] theorem LocalPort.join_sagSeen (l : LocalPort) (n : Notice) (ms : Option Nat) : (l.join n ms).sagSeen = l.sagSeen := by
  unfold LocalPort.join; split <;> rfl

@[simp] theorem State.notify_sagSeen (k : NoticeKind) (st : Option StationNumber) (v : Option Nat) :
    (s.notify k st v).lpt.sagSeen = s.lpt.sagSeen := LocalPort.join_sagSeen s.lpt _ _

@[simp] theorem LocalPort.join_clamped (l : LocalPort) (n : Notice) (ms : Option Nat) : (l.join n ms).clamped = l.clamped := by
  unfold LocalPort.join; split <;> rfl

@[simp] theorem State.notify_clamped (k : NoticeKind) (st : Option StationNumber) (v : Option Nat) :
    (s.notify k st v).lpt.clamped = s.lpt.clamped := LocalPort.join_clamped s.lpt _ _

@[simp] theorem LocalPort.join_overrunSeen (l : LocalPort) (n : Notice) (ms : Option Nat) : (l.join n ms).overrunSeen = l.overrunSeen := by
  unfold LocalPort.join; split <;> rfl

@[simp] theorem State.notify_overrunSeen (k : NoticeKind) (st : Option StationNumber) (v : Option Nat) :
    (s.notify k st v).lpt.overrunSeen = s.lpt.overrunSeen := LocalPort.join_overrunSeen s.lpt _ _

@[simp] theorem LocalPort.join_overruns (l : LocalPort) (n : Notice) (ms : Option Nat) : (l.join n ms).overruns = l.overruns := by
  unfold LocalPort.join; split <;> rfl

@[simp] theorem State.notify_overruns (k : NoticeKind) (st : Option StationNumber) (v : Option Nat) :
    (s.notify k st v).lpt.overruns = s.lpt.overruns := LocalPort.join_overruns s.lpt _ _

@[simp] theorem LocalPort.join_msCount (l : LocalPort) (n : Notice) (ms : Option Nat) : (l.join n ms).msCount = l.msCount := by
  unfold LocalPort.join; split <;> rfl

@[simp] theorem State.notify_msCount (k : NoticeKind) (st : Option StationNumber) (v : Option Nat) :
    (s.notify k st v).lpt.msCount = s.lpt.msCount := LocalPort.join_msCount s.lpt _ _

@[simp] theorem LocalPort.join_outgoing (l : LocalPort) (n : Notice) (ms : Option Nat) : (l.join n ms).outgoing = l.outgoing := by
  unfold LocalPort.join; split <;> rfl

@[simp] theorem State.notify_outgoing (k : NoticeKind) (st : Option StationNumber) (v : Option Nat) :
    (s.notify k st v).lpt.outgoing = s.lpt.outgoing := LocalPort.join_outgoing s.lpt _ _

@[simp] theorem LocalPort.setNtc_inExchange (l : LocalPort) (n : Nat) : (l.setNtc n).inExchange = l.inExchange := rfl

@[simp] theorem LocalPort.setNtc_received (l : LocalPort) (n : Nat) : (l.setNtc n).received = l.received := rfl

@[simp] theorem LocalPort.setNtc_holding (l : LocalPort) (n : Nat) : (l.setNtc n).holding = l.holding := rfl

@[simp] theorem LocalPort.setNtc_reply (l : LocalPort) (n : Nat) : (l.setNtc n).reply = l.reply := rfl

@[simp] theorem LocalPort.setNtc_sagSeen (l : LocalPort) (n : Nat) : (l.setNtc n).sagSeen = l.sagSeen := rfl

@[simp] theorem LocalPort.setNtc_clamped (l : LocalPort) (n : Nat) : (l.setNtc n).clamped = l.clamped := rfl

@[simp] theorem LocalPort.setNtc_overrunSeen (l : LocalPort) (n : Nat) : (l.setNtc n).overrunSeen = l.overrunSeen := rfl

@[simp] theorem LocalPort.setNtc_overruns (l : LocalPort) (n : Nat) : (l.setNtc n).overruns = l.overruns := rfl

@[simp] theorem LocalPort.setNtc_msCount (l : LocalPort) (n : Nat) : (l.setNtc n).msCount = l.msCount := rfl

@[simp] theorem LocalPort.setNtc_outgoing (l : LocalPort) (n : Nat) : (l.setNtc n).outgoing = l.outgoing := rfl

@[simp] theorem LocalPort.setNtc_notices (l : LocalPort) (n : Nat) : (l.setNtc n).notices = l.notices := rfl

@[simp] theorem LocalPort.setNtc_interim (l : LocalPort) (n : Nat) : (l.setNtc n).interim = l.interim := rfl

@[simp] theorem LocalPort.setNtc_noticesLost (l : LocalPort) (n : Nat) : (l.setNtc n).noticesLost = l.noticesLost := rfl

/-! ## The move into the transmit buffer -/

/-- The move changes nothing, or moves the frame that is next (R98). -/
theorem State.move_cases :
    s.move = s ∨
    ∃ f rest, s.slc.canTake = true ∧ s.ssv.mode ≠ .unconfigured ∧ s.fsc.take = some (f, rest) ∧
      s.move = { s with fsc := rest, slc := { s.slc with transmit := some ⟨f, none, none, 0⟩, claim := .contending } } := by
  unfold State.move
  split
  · rename_i h
    simp only [Bool.and_eq_true, bne_iff_ne, ne_eq] at h
    split
    · rename_i f rest heq
      exact .inr ⟨f, rest, h.1, h.2, heq, rfl⟩
    · exact .inl rfl
  · exact .inl rfl

/-- What can be taken: line FREE, transmit buffer empty, reset drive NONE (R98). -/
theorem LinkController.canTake_iff (c : LinkController) :
    c.canTake = true ↔ c.line = .free ∧ c.transmit = none ∧ c.resetDrive = .none := by
  simp [LinkController.canTake, and_assoc]

/-- The frame that moves is the head of the urgent queue, else the waiting STATUS (R98). -/
theorem Scheduler.take_cases (f : Scheduler) (o : OwnFrame) (r : Scheduler) (h : f.take = some (o, r)) :
    (∃ u us, f.urgent = u :: us ∧ o = .urgent u ∧ r = { f with urgent := us }) ∨
    (∃ w, f.urgent = [] ∧ f.routine = some w ∧ o = .status w ∧ r = { f with routine := none }) := by
  unfold Scheduler.take at h
  split at h
  · rename_i u us h1
    injection h with h; injection h with h2 h3
    exact .inl ⟨u, us, h1, h2.symm, h3.symm⟩
  · rename_i w h1 h2
    injection h with h; injection h with h3 h4
    exact .inr ⟨w, h1, h2, h3.symm, h4.symm⟩
  · cases h

/-- Nothing moves only from an empty queue and an empty slot (R98). -/
theorem Scheduler.take_none (f : Scheduler) : f.take = none ↔ f.urgent = [] ∧ f.routine = none := by
  unfold Scheduler.take
  split <;> simp_all

/-! ## The urgent queue -/

/-- A SLIP ALERT joins at the tail with room in the queue (R96). -/
theorem queueAlert_room (q : List UrgentFrame) (a : SlipAlert) (h : q.length < 4) : queueAlert q a = q ++ [.slipAlert a] := by
  simp [queueAlert, Config.urgentCapacity, h]

/-- In a full queue the newest SLIP ALERT is looked for from the tail (R96). -/
theorem queueAlert_full (q : List UrgentFrame) (a : SlipAlert) (h : 4 ≤ q.length) :
    queueAlert q a = (replaceFirstAlert a q.reverse).reverse := by
  simp [queueAlert, Config.urgentCapacity, Nat.not_lt.mpr h]

@[simp] theorem replaceFirstAlert_length (a : SlipAlert) (q : List UrgentFrame) :
    (replaceFirstAlert a q).length = q.length := by
  induction q with
  | nil => rfl
  | cons f fs ih => cases f <;> simp [replaceFirstAlert, ih]

/-! ## Class A conditions -/

theorem State.goSafe_ssv (c : FaultCause) : (s.goSafe c).ssv = s.ssv.enterSafe c := by
  unfold State.goSafe State.leaveSharing; split <;> rfl

theorem State.enterSafe_ssv (c : FaultCause) : (s.enterSafe c).ssv = s.ssv.enterSafe c := by
  simp [State.enterSafe, State.goSafe_ssv]

theorem State.classA_unconfigured (c : FaultCause) (h : s.ssv.mode = .unconfigured) : s.classA c = s := by
  simp [State.classA, h]

theorem State.classA_safe (c : FaultCause) (h : s.ssv.mode = .safe) : s.classA c = s.classAInSafe c := by
  simp [State.classA, h]

theorem State.classA_active (c : FaultCause) (h : s.ssv.mode = .announcing ∨ s.ssv.mode = .sharing) :
    s.classA c = s.enterSafe c := by
  rcases h with h | h <;> simp [State.classA, h]

/-- The Station Supervisor after a class A condition (R148 to R151). -/
theorem State.classA_ssv (c : FaultCause) :
    (s.classA c).ssv =
      match s.ssv.mode with
      | .unconfigured => s.ssv
      | .announcing => s.ssv.enterSafe c
      | .sharing => s.ssv.enterSafe c
      | .safe => { s.ssv with clashBar := s.ssv.clashBar || decide (c = FaultCause.clash) } := by
  cases h : s.ssv.mode <;> simp [State.classA, h, State.enterSafe_ssv, State.classAInSafe]

/-- A class A condition takes a configured station to SAFE and leaves an UNCONFIGURED one (R148). -/
@[simp] theorem State.classA_mode (c : FaultCause) :
    (s.classA c).ssv.mode = if s.ssv.mode = .unconfigured then .unconfigured else .safe := by
  rw [State.classA_ssv]
  cases h : s.ssv.mode <;> simp [Supervisor.enterSafe, h]

@[simp] theorem State.classA_ownNumber (c : FaultCause) : (s.classA c).ssv.ownNumber = s.ssv.ownNumber := by
  rw [State.classA_ssv]
  cases h : s.ssv.mode <;> simp [Supervisor.enterSafe]

@[simp] theorem State.classA_joinCount (c : FaultCause) : (s.classA c).ssv.joinCount = s.ssv.joinCount := by
  rw [State.classA_ssv]
  cases h : s.ssv.mode <;> simp [Supervisor.enterSafe]

@[simp] theorem State.classA_measureTimer (c : FaultCause) : (s.classA c).ssv.measureTimer = s.ssv.measureTimer := by
  rw [State.classA_ssv]
  cases h : s.ssv.mode <;> simp [Supervisor.enterSafe]

/-! ## The peer table -/

@[simp] theorem PeerTable.entry_withEntry_same (t : PeerTable) (n : StationNumber) (e : PeerEntry) :
    (t.withEntry n e).entry n = e := by
  simp [PeerTable.entry, PeerTable.withEntry]

@[simp] theorem PeerTable.entry_withEntry_other (t : PeerTable) (n m : StationNumber) (e : PeerEntry) (h : n ≠ m) :
    (t.withEntry n e).entry m = t.entry m := by
  have : n.val ≠ m.val := fun hv => h (Fin.ext hv)
  simp [PeerTable.entry, PeerTable.withEntry, this]

@[simp] theorem PeerTable.withEntry_demand (t : PeerTable) (n : StationNumber) (e : PeerEntry) :
    (t.withEntry n e).demand = t.demand := rfl

@[simp] theorem PeerTable.linkReset_entry (t : PeerTable) (n : StationNumber) :
    t.linkReset.entry n = (t.entry n).linkReset := by
  simp [PeerTable.linkReset, PeerTable.entry]

@[simp] theorem State.withEntry_ptb (n : StationNumber) (e : PeerEntry) : (s.withEntry n e).ptb = s.ptb.withEntry n e := rfl

end Sys2Proof.Machine
end

