-- ==== Sys2Proof/Laws/Wire.lean ====
section
/-! SUPPORT. What bytes clocked into the two buffers leave there, and that the buffer spells the command its whole string of bytes
spells. -/

namespace Sys2Proof.Machine

variable (s : State)

/-! ## The receive record buffer (R158, R160) -/

/-- Bytes of an exchange join the buffer as long as it has room for them. -/
theorem State.takeRecordBytes (bytes : List Byte) (h : s.lpt.inExchange = true) :
    bytes.foldl State.takeRecordByte s =
      { s with lpt := { s.lpt with received := s.lpt.received ++ bytes.take (48 - s.lpt.received.length) } } := by
  induction bytes generalizing s with
  | nil => simp
  | cons b bs ih =>
    rw [List.foldl_cons]
    by_cases hr : s.lpt.received.length < 48
    · have hb : s.takeRecordByte b = { s with lpt := { s.lpt with received := s.lpt.received ++ [b] } } := by
        simp [State.takeRecordByte, LocalPort.receiveByte, Config.recordLength, h, hr]
      have hk : 48 - s.lpt.received.length = (48 - (s.lpt.received.length + 1)) + 1 := by omega
      rw [hb, hk, List.take_succ_cons]
      refine (ih { s with lpt := { s.lpt with received := s.lpt.received ++ [b] } } h).trans ?_
      simp
    · have hb : s.takeRecordByte b = s := by
        simp [State.takeRecordByte, LocalPort.receiveByte, Config.recordLength, hr]
      have hk : 48 - s.lpt.received.length = 0 := by omega
      rw [hb, ih s h, hk]
      simp

/-- Outside an exchange no byte is read. -/
theorem State.takeRecordByte_atRest (b : Byte) (h : s.lpt.inExchange = false) : s.takeRecordByte b = s := by
  simp [State.takeRecordByte, LocalPort.receiveByte, h]

/-- The first 48 bytes form the record. -/
theorem recordCommand_take (bytes : List Byte) : recordCommand (bytes.take 48) = recordCommand bytes := by
  by_cases h : bytes.length < 48
  · rw [List.take_of_length_le (by omega)]
  · unfold recordCommand
    have h' : ¬(bytes.take 48).length < 48 := by simp; omega
    simp only [h, h', dite_false, List.take_take, Nat.min_self]

/-- An exchange with these bytes ends in the command they spell. -/
theorem State.withRecordBytes_eq (bytes : List Byte) (h : s.lpt.inExchange = true) (he : s.lpt.received = []) :
    s.withRecordBytes bytes =
      { s with lpt := { s.lpt with received := bytes.take 48 }, pending := recordCommand bytes :: s.pending } := by
  simp [State.withRecordBytes, State.takeRecordBytes s bytes h, State.withCommand, he, recordCommand_take]

/-! ## The receive buffer (R79) -/

theorem expectedLength_append (b : Byte) (bs more : List Byte) :
    expectedLength (b :: bs ++ more) = expectedLength (b :: bs) := rfl

/-- Bytes of a frame join what its reception has, up to the expected length. -/
theorem State.takeFrameBytes (bytes : List Byte) (b : Byte) (bs : List Byte) (h : s.slc.reception = .receiving)
    (hb : s.slc.received = b :: bs) :
    bytes.foldl State.takeFrameByte s =
      { s with
        slc := { s.slc with
          received := s.slc.received ++ bytes.take (expectedLength s.slc.received - s.slc.received.length) } } := by
  induction bytes generalizing s bs with
  | nil => simp
  | cons c cs ih =>
    rw [List.foldl_cons]
    by_cases hr : s.slc.received.length < expectedLength s.slc.received
    · have ht : s.takeFrameByte c = { s with slc := { s.slc with received := s.slc.received ++ [c] } } := by
        simp only [State.takeFrameByte, LinkController.receiveByte, h, hr, and_self, if_true]
      have he : expectedLength (s.slc.received ++ [c]) = expectedLength s.slc.received := by
        rw [hb]; exact expectedLength_append b bs [c]
      have hk : expectedLength s.slc.received - s.slc.received.length =
          (expectedLength s.slc.received - (s.slc.received.length + 1)) + 1 := by omega
      rw [ht, hk, List.take_succ_cons]
      refine (ih { s with slc := { s.slc with received := s.slc.received ++ [c] } } (bs ++ [c]) h (by simp [hb])).trans ?_
      simp [he]
    · have ht : s.takeFrameByte c = s := by
        simp only [State.takeFrameByte, LinkController.receiveByte, hr, and_false, if_false]
      have hk : expectedLength s.slc.received - s.slc.received.length = 0 := by omega
      rw [ht, ih s bs h hb, hk]
      simp

theorem expectedLength_pos (bs : List Byte) : 1 ≤ expectedLength bs := by
  cases bs with
  | nil => exact Nat.le_refl 1
  | cons b bs =>
    simp only [expectedLength, frameLength]
    repeat' split
    all_goals simp

/-- The bytes up to the expected length spell the frame, or the error, that the whole string spells. -/
theorem frameCommand_take (bytes : List Byte) : frameCommand (bytes.take (expectedLength bytes)) = frameCommand bytes := by
  cases bytes with
  | nil => rfl
  | cons b bs =>
    obtain ⟨k, hk⟩ : ∃ k, expectedLength (b :: bs) = k + 1 := ⟨_, (Nat.sub_add_cancel (expectedLength_pos _)).symm⟩
    have hh : byteAt (b :: bs.take k) 1 = b := rfl
    have hb : byteAt (b :: bs) 1 = b := rfl
    rw [hk, List.take_succ_cons]
    unfold frameCommand
    simp only [List.cons_ne_nil, if_false, hh, hb]
    cases hn : frameLength b with
    | none => rfl
    | some n =>
      have hkn : n = k + 1 := by simpa [expectedLength, hn] using hk
      subst hkn
      by_cases hl : (b :: bs).length < k + 1
      · have : bs.take k = bs := List.take_of_length_le (by simp at hl; omega)
        rw [this]
      · have hl' : ¬(b :: bs.take k).length < k + 1 := by simp at hl ⊢; omega
        have h1 : (b :: bs.take k) = (b :: bs).take (k + 1) := rfl
        have h2 : ∀ i, i ≤ k + 1 → 1 ≤ i → byteAt ((b :: bs).take (k + 1)) i = byteAt (b :: bs) i := by
          intro i hi h1
          simp only [byteAt, List.getD_eq_getElem?_getD]
          rw [List.getElem?_take_of_lt (by omega)]
        have hlen : 6 ≤ k + 1 := by
          unfold frameLength at hn
          repeat' split at hn
          all_goals simp at hn <;> omega
        simp only [hl, hl', if_false]
        rw [h1, List.take_take, List.take_take]
        have : halfAt ((b :: bs).take (k + 1)) (k + 1 - 1) = halfAt (b :: bs) (k + 1 - 1) := by
          unfold halfAt
          rw [h2 _ (by omega) (by omega), h2 _ (by omega) (by omega)]
        rw [this, Nat.min_eq_left (show k + 1 - 2 ≤ k + 1 by omega), Nat.min_self]

/-- Without a dominant stop bit the bytes alone decide. -/
@[simp] theorem receptionCommand_good (bytes : List Byte) : receptionCommand bytes false = frameCommand bytes := by
  simp [receptionCommand]

/-- The bytes up to the expected length expect what the whole string expects. -/
theorem expectedLength_take (bytes : List Byte) : expectedLength (bytes.take (expectedLength bytes)) = expectedLength bytes := by
  cases bytes with
  | nil => rfl
  | cons b bs =>
    obtain ⟨k, hk⟩ : ∃ k, expectedLength (b :: bs) = k + 1 := ⟨_, (Nat.sub_add_cancel (expectedLength_pos _)).symm⟩
    rw [hk, List.take_succ_cons]
    exact hk

/-- The bytes up to the expected length decide the reception that the whole string decides. -/
theorem receptionCommand_take (bytes : List Byte) (stopped : Bool) :
    receptionCommand (bytes.take (expectedLength bytes)) stopped = receptionCommand bytes stopped := by
  simp [receptionCommand, frameCommand_take, expectedLength_take]

/-- Bytes of a frame fill an empty receive buffer up to the expected length. -/
theorem State.takeFrameBytes_empty (bytes : List Byte) (h : s.slc.reception = .receiving) (he : s.slc.received = []) :
    bytes.foldl State.takeFrameByte s = { s with slc := { s.slc with received := bytes.take (expectedLength bytes) } } := by
  cases bytes with
  | nil => rw [List.foldl_nil, List.take_nil, ← he]
  | cons b bs =>
    have ht : s.takeFrameByte b = { s with slc := { s.slc with received := [b] } } := by
      simp [State.takeFrameByte, LinkController.receiveByte, h, he, expectedLength]
    have hr : [b] ++ bs.take (expectedLength [b] - 1) = (b :: bs).take (expectedLength (b :: bs)) := by
      rw [show expectedLength [b] = expectedLength (b :: bs) from rfl]
      obtain ⟨k, hk⟩ : ∃ k, expectedLength (b :: bs) = k + 1 := ⟨_, (Nat.sub_add_cancel (expectedLength_pos _)).symm⟩
      simp [hk]
    rw [List.foldl_cons, ht, State.takeFrameBytes { s with slc := { s.slc with received := [b] } } bs b [] h rfl]
    simp only [List.length_singleton, hr]

/-- A reception in which this was read ends in the command that the whole reading spells. -/
theorem State.withReception_eq (read : LineRead) (h : s.slc.reception = .receiving) (he : s.slc.received = []) :
    s.withReception read =
      { s with
        slc := { s.slc with received := read.bytes.take (expectedLength read.bytes) }
        pending := receptionCommand read.bytes read.dominantStop :: s.pending } := by
  simp only [State.withReception, State.takeFrameBytes_empty s read.bytes h he, State.withCommand, receptionCommand_take]

/-- A reception of these bytes ends in the command they spell. -/
theorem State.withFrameBytes_eq (bytes : List Byte) (h : s.slc.reception = .receiving) (he : s.slc.received = []) :
    s.withFrameBytes bytes =
      { s with
        slc := { s.slc with received := bytes.take (expectedLength bytes) }, pending := frameCommand bytes :: s.pending } := by
  simp [State.withFrameBytes, State.withReception_eq s ⟨bytes, false⟩ h he]

/-! ## The bits that carry bytes (R69, R160) -/

@[simp] theorem Level.bit_ofBit (b : Bool) : (Level.ofBit b).bit = b := by cases b <;> rfl

theorem byteOfBits_getLsbD (b : Byte) :
    byteOfBits (b.getLsbD 0) (b.getLsbD 1) (b.getLsbD 2) (b.getLsbD 3) (b.getLsbD 4) (b.getLsbD 5) (b.getLsbD 6)
      (b.getLsbD 7) = b := by
  revert b; decide +kernel

/-- Quiet before a byte reads as nothing. -/
@[simp] theorem readLevels_quiet (rest : List Level) : readLevels (.recessive :: rest) = readLevels rest := rfl

/-- A receiver reads the byte that was sent. -/
theorem readLevels_byte (b : Byte) (rest : List Level) :
    readLevels (byteLevels b ++ rest) = ⟨b :: (readLevels rest).bytes, (readLevels rest).dominantStop⟩ := by
  simp only [byteLevels, List.cons_append, List.nil_append, readLevels, Level.bit_ofBit, byteOfBits_getLsbD]

/-- A byte taken in keeps the receive buffer within the expected length. -/
theorem LinkController.receiveByte_length (c : LinkController) (b : Byte)
    (h : c.received.length ≤ expectedLength c.received) :
    (c.receiveByte b).received.length ≤ expectedLength (c.receiveByte b).received := by
  unfold LinkController.receiveByte
  split
  · rename_i hr
    cases hc : c.received with
    | nil => exact expectedLength_pos _
    | cons d ds => rw [hc] at hr; simpa [expectedLength] using hr.2
  · exact h

end Sys2Proof.Machine
end

