-- ==== Sys2Proof/Tests/Slice0.lean ====
section
/-! SUPPORT. Tests: the spec's worked values on one step each, the check of ill-formed commands, and for every statement with
hypotheses a state and operands that meet them. -/

namespace Sys2Proof.Tests

open Sys2Proof.Machine

/-! ## States to test on -/

/-- A configuration in range, from the worked cases of 2.7, 6.6 and 7.10. -/
def cfg : Setup where
  channelCount := 2
  teeth := 60
  circumference := 2400
  minToothPeriod := 100
  gearRatio := 576
  publishPeriod := 5
  silenceTimeout := 20
  demandTimeout := 20
  measureTimeout := 10
  rampLimit := 300
  loadTransfer := -20
  slipSampleInterval := 5
  slipThreshold := 60
  confirmNumber := 2
  settleTime := 100
  blockingMode := .launch
  launchSpeed := 1500
  withdrawOnSlip := true
  recoveryInterval := 200
  recoveryStep := 100
  sagThreshold := 520
  sagCap := 1800
  discordBand := 100
  noticeThreshold := 4
  interimTime := 100

/-- Station 1, configured, in a mode, with the line FREE. -/
def station (mode : StationMode) : State :=
  { State.reset with
    config := cfg
    ssv := { State.reset.ssv with
      mode := mode, measureTimer := .running 10, faultCause := if mode = .safe then some .localRequest else none }
    slc := { State.reset.slc with line := .free }
    fsc := { State.reset.fsc with publishTimer := .running 5 }
    wcu := {
      chA := { WheelChannel.afterReset with enabled := true }
      chB := { WheelChannel.afterReset with enabled := true }
      axleSpeed := 0 } }

/-- The station with an exchange in progress. -/
def inExchange (s : State) : State :=
  { s with lpt := { s.lpt with inExchange := true, outgoing := some (.ack .setup) } }

/-- The station with this in its reply slot. -/
def replying (s : State) (r : Reply) : State := { s with lpt := { s.lpt with reply := some r } }

/-- The station with this many notices waiting. -/
def noticed (s : State) (n : Nat) : State :=
  { s with lpt := { s.lpt with notices := List.replicate n ⟨.clamped, none, some 0, 0⟩ } }

/-- The station with its link controller changed. -/
def link (s : State) (line : LineState) (claim : ClaimState) (t : Option TransmitFrame) (r : Reception) : State :=
  { s with slc := { s.slc with line := line, claim := claim, transmit := t, reception := r } }

/-- The station receiving another sender's frame. -/
def hearing (mode : StationMode) : State := link (station mode) .frame .none none .receiving

/-- The station with one peer entry replaced. -/
def withPeer (s : State) (n : StationNumber) (e : PeerEntry) : State := { s with ptb := s.ptb.withEntry n e }

/-- A peer LIVE with last health SHARING, at this axle speed. -/
def livePeer (speed : Nat) : PeerEntry :=
  { PeerEntry.cleared with
    state := .live, joinCount := 3, lastSeq := some 9, health := some .sharing, propCap := 3600, retCap := 2700
    weight := 560, axleSpeed := speed, silenceTimer := .running 20 }

/-- Figures of a STATUS: those of 5.9.1. -/
def figures : StatusFigures := ⟨false, false, 3600, 2700, 380, 4800, 2700, some 41, 16⟩

/-- A frame in the transmit buffer that has won its first claim. -/
def numberedFrame (f : OwnFrame) (failures : Nat) : TransmitFrame := ⟨f, some 73, some (f.crc 1 73), failures⟩

/-- Station 1 sending a frame. -/
def sending (mode : StationMode) (f : OwnFrame) (joined : Nat) : State :=
  let s := link (station mode) .frame .sending (some (numberedFrame f 0)) .receiving
  { s with ssv := { s.ssv with joinCount := joined } }

/-- A sequence check, state and health away from a computation's snapshot: the MEASURE and demand of 1.10.1. -/
def snap (demandState : DemandState) : Snapshot where
  measure := ⟨5, 4000, 3000, 640, 420⟩
  demandState := demandState
  demand := 9000
  direction := .forward
  gripMode := .normal
  lastSeq := some 41
  peers := [⟨2, 2700, 2700, 560, 0, false⟩, ⟨3, 3600, 2700, 560, 0, false⟩]
  grip := 16
  accel := 2000
  mode := .sharing

/-- Station 1 in SHARING with a computation in flight. -/
def computing (demandState : DemandState) : State :=
  let s := station .sharing
  { s with spe := { s.spe with state := .busy, snapshot := some (snap demandState) } }

/-- Station 1 in SHARING, its Slip Monitor in a state, with one sharing peer at a speed, this axle speed, a held command of
+2700 and a PROPULSIVE demand. -/
def monitoring (m : MonitorState) (reference axle count : Nat) : State :=
  let s := withPeer (station .sharing) 2 (livePeer reference)
  { s with
    wcu := { s.wcu with axleSpeed := axle }
    slm := { s.slm with
      state := m, lastSense := .propulsive, sampleTimer := .running 5, confirmCount := count, prevRef := some reference }
    spe := { s.spe with inForce := ⟨9000, .propulsive, .forward, .normal, some 41⟩ }
    cms := { s.cms with
      held := 2700, motor := 3000, caps := ⟨3600, 2700⟩, sense := .propulsive, resultSeq := 60 } }

/-- The result of a step that goes on. -/
def after (o : Host.Outcome State Fault Refusal) : State :=
  match o with
  | .next s => s
  | .fault _ => State.reset
  | .refused _ => State.reset

/-- The fields of SETUP, each at the low or the high end of its range (R162). -/
def setupAt (high : Bool) : SetupRecord where
  channelCount := if high then 2 else 1
  teeth := if high then 120 else 30
  circumference := if high then 3600 else 1200
  minToothPeriod := if high then 2000 else 20
  gearRatio := if high then 1600 else 64
  publishPeriod := if high then 20 else 1
  silenceTimeout := if high then 200 else 3
  demandTimeout := if high then 200 else 5
  measureTimeout := if high then 50 else 2
  rampLimit := if high then 4000 else 10
  loadTransfer := if high then 100 else -100
  slipSampleInterval := if high then 16 else 1
  slipThreshold := if high then 500 else 20
  confirmNumber := if high then 8 else 1
  settleTime := if high then 2000 else 0
  blockingMode := if high then 3 else 0
  launchSpeed := if high then 5000 else 0
  withdrawOnSlip := if high then 1 else 0
  recoveryInterval := if high then 1000 else 50
  recoveryStep := if high then 2000 else 10
  sagThreshold := if high then 900 else 100
  sagCap := if high then 8000 else 0
  discordBand := if high then 2000 else 10
  noticeThreshold := if high then 16 else 1
  interimTime := if high then 255 else 1

/-! ## Ill-formed commands -/

theorem test_unknown_kind_1_is_ill_formed : (Instr.unknownRecordKind 1).wellFormed = false := by decide
theorem test_unknown_kind_8_is_ill_formed : (Instr.unknownRecordKind 8).wellFormed = false := by decide
theorem test_unknown_kind_9_is_well_formed : (Instr.unknownRecordKind 9).wellFormed = true := by decide
theorem test_silence_of_station_0_is_ill_formed : (Instr.silenceTimerExpiry 0).wellFormed = false := by decide

/-! ## Codes (10.4) -/

theorem test_undefined_codes_read_as_none :
    Sense.ofAlertCode 0 = none ∧ Sense.ofAlertCode 3 = none ∧ BlockingMode.ofCode 4 = none ∧ Direction.ofCode 2 = none ∧
      GripMode.ofCode 2 = none ∧ Health.ofCode 3 = none ∧ FaultCause.ofCode 0 = none ∧ FaultCause.ofCode 5 = none ∧
      withdrawOfCode 2 = none := by decide

/-- The bytes of 10.5.1: a MEASURE with its check byte 0x60, and a NOP with 0xF8. -/
theorem test_measure_bytes :
    recordBytes (.measure ⟨5, 4000, 3000, 640, 420⟩) =
      some ([2, 5, 0xA0, 0x0F, 0xB8, 0x0B, 0x80, 0x02, 0xA4, 0x01] ++ List.replicate 37 0 ++ [0x60]) := by decide +kernel

theorem test_nop_bytes : recordBytes .nop = some ([8] ++ List.replicate 46 0 ++ [0xF8]) := by decide +kernel

theorem test_measure_decodes :
    recordCommand ([2, 5, 0xA0, 0x0F, 0xB8, 0x0B, 0x80, 0x02, 0xA4, 0x01] ++ List.replicate 37 0 ++ [0x60]) =
      .measure ⟨5, 4000, 3000, 640, 420⟩ := by decide +kernel

/-- The bytes of 10.5.2, but their CRC. -/
theorem test_status_bytes :
    (OwnFrame.status ⟨.sharing, figures⟩).body 1 73 =
      [0x52, 0x11, 0x49, 0x01, 0x10, 0x0E, 0x8C, 0x0A, 0x7C, 0x01, 0xC0, 0x12, 0x8C, 0x0A, 0x29, 0x10] := by decide +kernel

/-- The CRC of the nine bytes 0x31 to 0x39 (R177). -/
theorem test_crc : crc16 [0x31, 0x32, 0x33, 0x34, 0x35, 0x36, 0x37, 0x38, 0x39] = 0x29B1 := by decide +kernel

/-! ## Divisions (1.10) -/

/-- The share of each station in a division. -/
def shares (d : Division) : List (Nat × Int) := d.entries.map (fun e => (e.number.val, e.share))

/-- 1.10.1: two saturations. -/
theorem test_division_two_saturations :
    let d := divide 9000 .propulsive
      [⟨1, 3600, 380, 0, false⟩, ⟨2, 2700, 560, 0, false⟩, ⟨3, 3600, 560, 0, false⟩]
    shares d = [(1, 2700), (2, 2700), (3, 3600)] ∧ d.shortfall = 0 := by decide

/-- 1.10.2: a residual among equal weights goes to the lower number. -/
theorem test_division_residual :
    shares (divide 1003 .propulsive [⟨2, 4000, 300, 0, false⟩, ⟨4, 4000, 300, 0, false⟩, ⟨6, 4000, 200, 0, false⟩]) =
      [(2, 377), (4, 376), (6, 250)] := by decide

/-- 1.10.3: a discordant peer while retarding, and one reporting against the demand. -/
theorem test_division_discordant :
    shares (divide (-6000) .retarding [⟨1, 2500, 400, 0, false⟩, ⟨3, 3000, 450, -2800, true⟩, ⟨5, 2000, 500, 0, false⟩]) =
      [(1, -1422), (3, -2800), (5, -1778)] ∧
    let d := divide (-6000) .retarding [⟨1, 2500, 400, 0, false⟩, ⟨3, 3000, 450, 500, true⟩, ⟨5, 2000, 500, 0, false⟩]
    shares d = [(1, -2500), (3, 0), (5, -2000)] ∧ d.shortfall = 1500 := by decide

/-- 1.10.4: fixed contributions above the demand. -/
theorem test_division_fixed_above_demand :
    let d := divide 2500 .propulsive [⟨1, 3000, 300, 1800, true⟩, ⟨4, 3000, 300, 0, false⟩, ⟨7, 3000, 300, 1200, true⟩]
    shares d = [(1, 1800), (4, 0), (7, 1200)] ∧ d.shortfall = 0 := by decide

/-- 1.10.5 and 1.10.6: no weight among the participants; alone on the link. -/
theorem test_division_no_weight_and_alone :
    shares (divide 1000 .propulsive [⟨2, 500, 0, 0, false⟩, ⟨3, 600, 0, 0, false⟩, ⟨4, 200, 0, 0, false⟩]) =
      [(2, 400), (3, 400), (4, 200)] ∧
    (divide 5000 .propulsive [⟨3, 3600, 300, 0, false⟩]).shortfall = 1400 := by decide

/-- 1.10.1 as one completion: own figures, the vector's own share, and the first ramp step of the held command. -/
theorem test_computation_completion :
    let s := after (exec .computationCompletion (computing .fresh))
    s.spe.ownCaps = ⟨3600, 2700⟩ ∧ s.spe.ownWeight = 380 ∧ (s.spe.vector.map (·.entries.length)) = some 3 ∧
      s.cms.held = 300 ∧ s.cms.rateLimited = true ∧ s.cms.resultSeq = 1 := by decide +kernel

/-- 1.10.7: a stale demand under LOW_GRIP decays by 150 and reaches 0. -/
theorem test_stale_demand_decays :
    decayToward0 (-800) (rampStep 300 .lowGrip) = -650 ∧ decayToward0 (-50) (rampStep 300 .lowGrip) = 0 := by decide

/-! ## Held and motor command (2.7) -/

/-- 2.7.1 and 2.7.2: conversions, and rounding at one half. -/
theorem test_motor_rounding :
    motorOf 576 2200 = 2444 ∧ motorOf 576 2500 = 2778 ∧ motorOf 1280 2501 = 1251 ∧ motorOf 1280 (-2501) = -1251 := by
  decide

/-- A completion's figures in the cases of 2.7: share, sense, grip mode, voltage. -/
def handOff (share : Int) (sense : Sense) (grip : GripMode) (voltage : Nat) : HandOff :=
  ⟨share, ⟨3600, 2700⟩, share, sense, grip, voltage, .sharing, none⟩

/-- 2.7.1: a ramp step short of the target. -/
theorem test_ramp :
    let c := ({ CommandStage.afterReset with held := 2200, resultSeq := 57 }).complete cfg
      (handOff 2700 .propulsive .normal 640)
    c.held = 2500 ∧ c.motor = 2778 ∧ c.rateLimited = true ∧ c.resultSeq = 58 := by decide

/-- 2.7.3: a reversal passes through zero and steps by half the ramp limit under LOW_GRIP. -/
theorem test_reversal :
    let c := ({ CommandStage.afterReset with held := 400 }).complete cfg (handOff (-900) .retarding .lowGrip 640)
    c.held = -150 ∧ c.motor = -167 ∧ c.rateLimited = true := by decide

/-- 2.7.4: the sag cap cuts the held command, which is then not rate-limited; the state holds through 526 V. -/
theorem test_sag :
    let c := ({ CommandStage.afterReset with held := 2700 }).complete cfg (handOff 2700 .propulsive .normal 512)
    c.sag = .inSag ∧ c.held = 1800 ∧ c.rateLimited = false ∧
      (c.complete cfg (handOff 2700 .propulsive .normal 526)).sag = .inSag ∧
      (c.complete cfg (handOff 2700 .propulsive .normal 531)).held = 2100 := by decide

/-! ## Tooth wheels (6.6) -/

/-- 6.6.1, 6.6.2 and 6.6.4: speeds from a full ring, and a period across the wrap of the timebase. -/
theorem test_wheel_speeds :
    ringSpeed 2400 60 [1333, 1333, 1333, 1333] = 30007 ∧ ringSpeed 2400 60 [40000, 20000, 15000, 12000] = 1839 ∧
      edgePeriod 16776500 1000 = 1716 ∧ ringSpeed 2400 60 [1700, 1710, 1690, 1716] = 23474 := by decide

/-- 6.6.2: the fifth period drops the oldest. -/
theorem test_tooth_edge :
    let s := station .sharing
    let t := after (exec (.toothEdge .a 1097000) { s with wcu := { s.wcu with
      chA := { s.wcu.chA with lastEdge := some 1087000, ring := [40000, 20000, 15000, 12000], speed := 1839 } } })
    t.wcu.chA.ring = [20000, 15000, 12000, 10000] ∧ t.wcu.chA.speed = 2807 ∧ t.wcu.axleSpeed = 1403 := by decide

/-! ## The Slip Monitor (7.10) -/

/-- 7.10.2 and R129: slips, and the effective threshold of R130. -/
theorem test_slips :
    slipOf .propulsive 5200 4800 = 83 ∧ slipOf .propulsive 400 100 = 600 ∧ slipOf .propulsive 1700 1600 = 62 ∧
      slipOf .retarding 5200 4800 = 0 ∧ slipLimit 20 .lowGrip = 10 ∧ slipLimit 25 .lowGrip = 12 ∧
      slipLimit 500 .lowGrip = 250 := by decide

/-- 7.10.2: the confirming sample is the slip event. -/
theorem test_slip_event :
    let s := after (exec .slipSample (monitoring .confirming 4820 5500 1))
    s.slm.state = .recovering ∧ s.slm.grip = 8 ∧ s.slm.slipCap = some ⟨2025, .propulsive⟩ ∧ s.cms.held = 2025 ∧
      s.cms.motor = 2250 ∧ s.cms.resultSeq = 61 ∧ s.slm.slipEvents = 1 ∧
      (s.slc.transmit.map (·.frame)) = some (.urgent (.slipAlert ⟨.propulsive, 2025, 0, 141⟩)) := by decide +kernel

/-- 7.10.2: the filtered acceleration. -/
theorem test_filtered_acceleration :
    (({ Monitor.afterReset with prevRef := some 4790, accel := 400 }).filter (some 4800) 4).accel = 662 ∧
      (({ Monitor.afterReset with prevRef := some 4800, accel := 662 }).filter (some 4800) 4).accel = 580 := by decide

/-- 7.10.1: slipping and joining peers set aside. -/
theorem test_reference :
    let s := withPeer (withPeer (monitoring .watching 4700 0 0) 2 { livePeer 4650 with slipFlag := true }) 3 (livePeer 4800)
    let t := withPeer (withPeer s 4 { livePeer 4400 with health := some .joining }) 5 { livePeer 4000 with state := .silent }
    t.reference = some 4800 := by decide

/-- 7.10.3: the last cap recovery lifts the slip cap and ends RECOVERING; the eighth grip recovery stops its timer. -/
theorem test_recoveries :
    let s := monitoring .recovering 4800 4800 0
    let t := after (exec .capRecoveryExpiry { s with slm := { s.slm with
      slipCap := some ⟨3525, .propulsive⟩, capTimer := .running 200 } })
    let u := after (exec .gripRecoveryExpiry { s with slm := { s.slm with
      grip := 15, slipCap := some ⟨2725, .propulsive⟩, gripTimer := .running 200 } })
    t.slm.slipCap = none ∧ t.slm.state = .watching ∧ t.lpt.notices.map (·.kind) = [.slipRecovered] ∧
      u.slm.grip = 16 ∧ u.slm.gripTimer = .stopped ∧ u.slm.state = .recovering := by decide +kernel

/-! ## The station and its port -/

/-- SETUP in range is accepted at both ends of every range, and refused one above the index-5 range (R162). -/
theorem test_setup :
    firstOutOfRange (setupAt false) = none ∧ firstOutOfRange (setupAt true) = none ∧
      firstOutOfRange { setupAt true with gearRatio := 1601, interimTime := 0 } = some 5 ∧
      firstOutOfRange { setupAt true with blockingMode := 4 } = some 16 := by decide

theorem test_setup_accepted :
    let s := after (exec (.setup (setupAt true)) (inExchange State.reset))
    s.ssv.mode = .announcing ∧ s.lpt.reply = some (.ack .setup) ∧ s.wcu.chB.enabled = true ∧
      s.config.loadTransfer = 100 ∧ s.lpt.ntc = false := by decide +kernel

/-- A class A condition in SHARING zeroes the held command and sends a FAULT at once (R149, R40, R97). -/
theorem test_safe_request :
    let s := after (exec .safeRequest (inExchange (monitoring .watching 4800 4800 0)))
    s.ssv.mode = .safe ∧ s.cms.held = 0 ∧ s.slm.state = .off ∧
      (s.slc.transmit.map (·.frame)) = some (.urgent (.fault .localRequest)) := by decide +kernel

/-- The third JOINING STATUS sent brings SHARING (R147). -/
theorem test_third_status_shares :
    let s := after (exec .frameSent (sending .announcing (.status ⟨.joining, figures⟩) 2))
    s.ssv.mode = .sharing ∧ s.slm.state = .settling ∧ s.slc.claim = .none := by decide +kernel

/-- A DEMAND out of range is clamped; its repeat is not accepted again (R46). -/
theorem test_demand :
    let s := after (exec (.demandFrame ⟨0, .urgent, 7⟩ ⟨20000, 0, 1⟩) (hearing .sharing))
    s.ptb.demand.demand = 16000 ∧ s.ptb.demand.gripMode = .lowGrip ∧ s.ptb.demand.state = .fresh ∧
      (after (exec (.demandFrame ⟨0, .urgent, 7⟩ ⟨5, 0, 0⟩) { s with slc := (hearing .sharing).slc })).ptb.demand.demand =
        16000 := by decide +kernel

/-- A STATUS from station 2: the third in sequence makes it LIVE (R54). -/
theorem test_peer_joins :
    let e : PeerEntry := { livePeer 0 with state := .joining, joinCount := 2 }
    let s := after (exec (.statusFrame ⟨2, .routine, 10⟩ ⟨1, false, false, true, 9000, 100, 500, 4800, 0, 0, 16⟩)
      (withPeer (hearing .sharing) 2 e))
    (s.ptb.entry 2).state = .live ∧ (s.ptb.entry 2).propCap = 8000 ∧ (s.ptb.entry 2).reportedDemandSeq = none ∧
      s.lpt.notices.map (·.kind) = [.peerJoined] := by decide +kernel

/-- A frame that bears the own number is a clash (R81). -/
theorem test_clash :
    let s := after (exec (.faultFrame ⟨1, .urgent, 3⟩ ⟨2⟩) (hearing .sharing))
    s.ssv.mode = .safe ∧ s.ssv.clashBar = true ∧ s.ssv.faultCause = some .clash := by decide +kernel

/-- A link reset seen empties the table but keeps the gap counter (R67, R156). -/
theorem test_link_reset :
    let s := after (exec .linkResetSeen (withPeer (monitoring .watching 4800 4800 0) 3 { livePeer 0 with gaps := 4 }))
    s.ssv.mode = .announcing ∧ s.slc.line = .resetting ∧ (s.ptb.entry 3).state = .absent ∧ (s.ptb.entry 3).gaps = 4 ∧
      s.cms.held = 0 := by decide +kernel

/-- The STATE record of a part just reset, as PSDO carries it: 0x81 with its least significant bit first, zeros after bit 384,
and high impedance before the exchange (R158, R159, 10.3). -/
theorem test_state_record :
    let l := (after (exec .exchangeStart State.reset)).lpt
    (l.outgoing.map (·.bytes.take 8)) = some [0x81, 1, 0, 0, 1, 0, 0, 0] ∧
      (List.range 9).map l.psdo = [true, false, false, false, false, false, false, true, true].map some ∧
      l.psdo 384 = some false ∧ State.reset.lpt.psdo 0 = none := by
  decide +kernel

/-- The NOP of 10.5.1 clocked in byte by byte, with a 49th byte that is not kept (R158, R160). -/
theorem test_record_bytes_are_kept :
    let s := (inExchange State.reset).withRecordBytes ([8] ++ List.replicate 46 0 ++ [0xF8, 0xAA])
    s.pending = [.nop] ∧ s.lpt.received.length = 48 ∧ (after (step s)).lpt.received = [] := by decide +kernel

/-- PART_RESET reads the straps with weights 1, 2 and 4 (R43). -/
theorem test_straps : (after (exec (.partReset false true false true) (station .safe))).ssv.ownNumber = 5 := by decide

/-! ## Every statement's hypotheses are met -/

theorem witness_StepRunsFrontCommand :
    ({ State.reset with pending := [.nop, .millisecondTick] } : State).pending = .nop :: [.millisecondTick] ∧
      State.reset.pending = [] := by decide

/-- Out of place after reset: everything but what EXCHANGE_START, a timer, a busy engine or a line of its own would need. -/
theorem witness_EventsOutOfPlace :
    let s := State.reset
    (inExchange s).lpt.inExchange = true ∧ s.lpt.inExchange = false ∧ s.slc.line ≠ .frame ∧
      (link s .frame .none none (.ended true)).slc.reception ≠ .receiving ∧ s.slc.claim ≠ .contending ∧
      (link s .window .contending (some (numberedFrame (.status ⟨.joining, figures⟩) 0)) .idle).slc.claim = .contending ∧
      s.slc.resetDrive ≠ .pending ∧ (station .safe).slc.line = .free ∧ s.slc.line = .busyUnknown ∧
      (link s .frame .none none .receiving).slc.reception ≠ .ended true ∧
      (link s .frame .none none (.ended false)).slc.reception ≠ .ended true ∧ (link s .window .none none .idle).slc.line = .window ∧
      (link s .resetting .none none .idle).slc.line = .resetting ∧ s.fsc.publishTimer = .stopped ∧
      s.ptb.demand.timer = .stopped ∧ (s.ptb.entry 7).silenceTimer = .stopped ∧ s.ssv.measureTimer = .stopped ∧
      s.spe.state = .idle ∧ s.wcu.chA.stopTimer = .stopped ∧ s.wcu.chB.stopTimer = .stopped ∧
      s.slm.sampleTimer = .stopped ∧ s.slm.settleTimer = .stopped ∧ s.slm.gripTimer = .stopped ∧
      s.slm.capTimer = .stopped ∧ s.lpt.interim = .stopped := by decide

theorem witness_ExchangeStartSendsState :
    State.reset.lpt.inExchange = false ∧ State.reset.lpt.reply = none := by decide

theorem witness_ExchangeStartSendsReply :
    (replying State.reset (.ack .setup)).lpt.inExchange = false ∧
      (replying State.reset (.ack .setup)).lpt.reply = some (.ack .setup) ∧
      (replying State.reset (.refuse none .length none)).lpt.reply = some (.refuse none .length none) ∧
      (replying State.reset .notice).lpt.reply = some .notice ∧ (replying State.reset .notice).lpt.notices = [] ∧
      (noticed (replying State.reset .notice) 1).lpt.notices = ⟨.clamped, none, some 0, 0⟩ :: [] := by decide

theorem witness_ExchangeStartSendsPeerView :
    let s := station .sharing
    s.lpt.inExchange = false ∧ (replying s (.peerView 0)).lpt.reply = some (.peerView 0) ∧ s.ssv.ownNumber ≠ 0 ∧
      (replying s (.peerView 1)).lpt.reply = some (.peerView s.ssv.ownNumber) ∧
      (replying s (.peerView 7)).lpt.reply = some (.peerView 7) ∧ (7 : StationNumber) ≠ s.ssv.ownNumber := by decide

theorem witness_RequestsAndBadRecords :
    (inExchange State.reset).lpt.inExchange = true ∧ (7#8).toNat = (7 : StationNumber).val ∧ 8 ≤ (8#8 : Byte).toNat := by
  decide

theorem witness_NopAndUnknownKinds :
    (inExchange State.reset).lpt.inExchange = true ∧ (0#8 :: List.replicate 47 0#8).length = 48 ∧
      byteSum (0 :: List.replicate 47 0) = 0 ∧ (List.replicate 46 0#8 ++ [0xF8]).length = 47 ∧
      byteSum (8 :: (List.replicate 46 0 ++ [0xF8])) = 0 ∧ byteSum (9 :: (List.replicate 46 0 ++ [0xF7])) = 0 ∧
      8 < (9#8).toNat := by decide +kernel

theorem witness_RecordsRefused :
    (inExchange State.reset).ssv.mode = .unconfigured ∧ (inExchange (station .sharing)).ssv.mode ≠ .safe ∧
      (inExchange (station .safe)).lpt.inExchange = true ∧ (inExchange (station .safe)).ssv.mode = .safe ∧
      (inExchange { station .safe with ssv := { (station .safe).ssv with clashBar := true } }).ssv.clashBar = true ∧
      (link (station .sharing) .resetting .none none .idle).slc.line = .resetting ∧
      (station .sharing).ssv.mode ≠ .unconfigured ∧
      (after (exec (.partReset true false false false) State.reset)).ssv.ownNumber = 0 ∧
      State.reset.ssv.ownNumber ≠ 0 ∧ firstOutOfRange { setupAt true with interimTime := 0 } = some 25 := by decide

theorem witness_SetupRangeCheck :
    firstOutOfRange (setupAt true) = none ∧ firstOutOfRange { setupAt false with channelCount := 0 } = some 1 ∧
      firstOutOfRange { setupAt false with interimTime := 0 } = some 25 := by decide

theorem witness_SetupAccepted :
    let s := inExchange State.reset
    s.lpt.inExchange = true ∧ s.ssv.mode = .unconfigured ∧ s.ssv.ownNumber ≠ 0 ∧ firstOutOfRange (setupAt false) = none ∧
      firstOutOfRange (setupAt true) = none ∧ (noticed s 15).lpt.notices.length = 15 ∧
      (noticed s 16).lpt.notices.length = 16 := by decide

theorem witness_MeasureAccepted :
    let s := inExchange (station .announcing)
    let r : MeasureRecord := ⟨5, 10000, 10000, 1000, 1000⟩
    s.lpt.inExchange = true ∧ s.ssv.mode ≠ .unconfigured ∧ r.availProp.toNat ≤ 10000 ∧ r.availRet.toNat ≤ 10000 ∧
      r.voltage.toNat ≤ 1000 ∧ r.load.toNat ≤ 1000 ∧ s.spe.state = .idle ∧
      (computing .fresh).spe.state = .busy ∧ (computing .fresh).lpt.holding = none ∧
      ({ s.lpt with holding := some ⟨4, 0, 0, 0, 0⟩ } : LocalPort).holding = some ⟨4, 0, 0, 0, 0⟩ ∧
      10000 < ({ r with availProp := 10001 } : MeasureRecord).availProp.toNat ∧
      1000 < ({ r with load := 1001 } : MeasureRecord).load.toNat := by decide

theorem witness_NoticesAndPortTimers :
    (noticed State.reset 15).lpt.notices.length < 16 ∧ 16 ≤ (noticed State.reset 16).lpt.notices.length ∧
      ({ (noticed State.reset 1).lpt with interim := .running 100 } : LocalPort).interim = .running 100 := by decide

theorem witness_ClassACondition :
    State.reset.ssv.mode = .unconfigured ∧ (station .announcing).ssv.mode = .announcing ∧
      (station .sharing).ssv.mode = .sharing ∧ (station .safe).ssv.mode = .safe := by decide

theorem witness_SafeRequestAndResume :
    (inExchange (station .safe)).lpt.inExchange = true ∧ (inExchange (station .safe)).ssv.mode ≠ .unconfigured ∧
      (inExchange (station .safe)).ssv.mode = .safe ∧ (inExchange (station .safe)).ssv.clashBar = false := by decide

theorem witness_MeasureTimerExpires :
    (station .sharing).ssv.measureTimer = .running 10 ∧ (station .sharing).ssv.mode = .sharing ∧
      (station .announcing).ssv.mode = .announcing ∧ (station .safe).ssv.measureTimer = .running 10 ∧
      (station .safe).ssv.mode = .safe ∧ (station .safe).ssv.measureLost = false ∧
      ({ (station .safe).ssv with measureLost := true } : Supervisor).measureLost = true := by decide

theorem witness_LinkResetRequestAccepted :
    let s := inExchange (station .safe)
    s.lpt.inExchange = true ∧ s.ssv.mode ≠ .unconfigured ∧ s.slc.line ≠ .resetting ∧ s.slc.resetDrive = .none := by decide

theorem witness_LineStateMoves :
    (station .safe).slc.line = .free ∧ (link (station .safe) .window .waiting none .idle).slc.line = .window ∧
      (link (station .safe) .window .waiting none .idle).slc.claim ≠ .contending ∧
      (link (station .safe) .resetting .none none .idle).slc.line = .resetting ∧
      (link (station .safe) .resetting .none none .idle).slc.resetDrive ≠ .driving ∧
      ({ (link (station .safe) .frame .none none (.ended true)).slc with resetDrive := .pending } :
        LinkController).reception = .ended true ∧
      ({ (station .safe).slc with resetDrive := .pending } : LinkController).resetDrive = .pending := by decide

theorem witness_ClaimsWonAndLost :
    let t : TransmitFrame := ⟨.status ⟨.joining, figures⟩, none, none, 0⟩
    let s := link (station .announcing) .window .contending (some t) .idle
    s.slc.line = .window ∧ s.slc.claim = .contending ∧ s.slc.transmit = some t ∧ t.seq = none ∧
      (numberedFrame t.frame 1).seq ≠ none ∧ ((8 : Fin 16).val < 8 + s.ssv.ownNumber.val) ∧
      ((0 : Fin 16).val < s.ssv.ownNumber.val) ∧ s.slc.resetDrive ≠ .driving ∧
      (∃ won, exec .claimWon s = .next won ∧ (∃ started, exec .frameStart won = .next started) ∧
        ∃ u bytes, won.slc.transmit = some u ∧ u.bytes s.ssv.ownNumber = some bytes) ∧
      ∃ lost, exec (.claimLost 8) s = .next lost :=
  ⟨by decide, by decide, by decide, by decide, by decide, by decide, by decide, by decide,
    ⟨_, rfl, ⟨_, rfl⟩, _, _, rfl, rfl⟩, ⟨_, rfl⟩⟩

/-- The levels of the frame the station drives. -/
def frameLevels : LinkDrive → List Level
  | .ownFrame levels => levels
  | .nothing => []
  | .openMark => []
  | .claimPulse _ => []
  | .resetDominant => []

/-- The winner drives the pulse of its own routine slot, 8 plus its number, then the bits of its frame: of its first byte, 0x52, a
dominant start bit, 01001010 least significant first, a recessive stop bit, and the next start bit at once; 18 bytes are 180 bits
(R69, R76, R77). -/
theorem test_claim_pulse :
    let s := link (station .announcing) .window .contending (some ⟨.status ⟨.joining, figures⟩, none, none, 0⟩) .idle
    let won := after (exec .claimWon s)
    s.drive = .nothing ∧ won.drive = .claimPulse 9 ∧ (after (exec (.claimLost 8) s)).drive = .nothing ∧
      (let levels := frameLevels (after (exec .frameStart won)).drive
       levels.length = 180 ∧ (levels.take 11).map Level.bit =
         [false, false, true, false, false, true, false, true, false, true, false]) := by decide +kernel

/-- A byte behind quiet is read; a dominant stop bit ends the reception short of its length (R69, R79). -/
theorem test_levels_read :
    let levels := [.recessive] ++ byteLevels 0x54 ++ [.recessive, .recessive] ++ (byteLevels 0x12).take 9 ++ [.dominant]
    readLevels levels = ⟨[0x54], true⟩ ∧
      ((hearing .sharing).withFrameLevels levels).pending = [.receiveError .dominantStop] := by decide +kernel

theorem witness_BusFreeTime :
    State.reset.slc.line = .busyUnknown ∧ (hearing .sharing).slc.line = .frame ∧
      (link (station .safe) .window .waiting none .idle).slc.line = .window ∧ State.reset.slc.resetDrive ≠ .driving ∧
      (hearing .sharing).slc.claim ≠ .sending := by decide

theorem witness_ReceiveErrorCounted :
    (hearing .sharing).slc.line = .frame ∧ (hearing .sharing).slc.reception = .receiving ∧
      (hearing .sharing).slc.claim ≠ .sending := by decide

theorem witness_FrameSent :
    let f : OwnFrame := .status ⟨.joining, figures⟩
    let s := sending .announcing f 2
    s.slc.line = .frame ∧ s.slc.claim = .sending ∧ s.slc.transmit = some (numberedFrame f 0) ∧
      s.ssv.mode = .announcing ∧ s.ssv.joinCount = 2 ∧ (sending .announcing f 1).ssv.joinCount ≤ 1 ∧
      (sending .safe (.urgent (.fault .clash)) 0).ssv.mode ≠ .announcing ∧
      (numberedFrame (.urgent (.slipAlert ⟨.propulsive, 0, 0, 0⟩)) 0).frame =
        .urgent (.slipAlert ⟨.propulsive, 0, 0, 0⟩) ∧
      (numberedFrame (.urgent (.fault .clash)) 0).frame = .urgent (.fault .clash) := by decide +kernel

theorem witness_EchoCheckFailed :
    let t := numberedFrame (.status ⟨.sharing, figures⟩) 1
    let s := link (station .sharing) .frame .sending (some t) .receiving
    s.slc.claim = .sending ∧ s.slc.transmit = some t ∧ t.echoFailures ≠ 0 ∧ (numberedFrame t.frame 0).echoFailures = 0 ∧
      s.slc.echoRun ≠ 7 ∧ ({ s.slc with echoRun := 7 } : LinkController).echoRun = 7 := by decide +kernel

theorem witness_LinkResetSeen : (hearing .sharing).slc.line ≠ .resetting := by decide

theorem witness_MoveIntoTransmitBuffer :
    let s := station .sharing
    s.slc.line = .free ∧ s.slc.transmit = none ∧ s.slc.resetDrive = .none ∧ s.ssv.mode ≠ .unconfigured ∧
      ({ s.fsc with urgent := [.fault .clash] } : Scheduler).urgent = .fault .clash :: [] ∧ s.fsc.urgent = [] ∧
      ({ s.fsc with routine := some ⟨.sharing, figures⟩ } : Scheduler).routine = some ⟨.sharing, figures⟩ ∧
      (hearing .sharing).slc.line ≠ .free ∧
      ({ s.slc with resetDrive := .driving } : LinkController).resetDrive = .driving := by decide

theorem witness_UrgentQueue :
    let a : UrgentFrame := .slipAlert ⟨.propulsive, 2025, 295, 141⟩
    [a, a, a].length < 4 ∧ 4 ≤ ([a, a, a] ++ UrgentFrame.slipAlert ⟨.retarding, 1, 2, 3⟩ :: []).length ∧
      4 ≤ ([a, a] ++ UrgentFrame.slipAlert ⟨.retarding, 1, 2, 3⟩ :: [.fault .clash]).length ∧
      (∀ f ∈ [UrgentFrame.fault .clash], f.isFault = true) ∧ faultCount [a, UrgentFrame.fault .clash] ≤ 1 := by decide

theorem witness_DemandReceived :
    let h : FrameHeader := ⟨0, .urgent, 7⟩
    let s := hearing .sharing
    (hearing .unconfigured).ssv.mode = .unconfigured ∧ s.slc.line = .frame ∧ s.slc.reception = .receiving ∧
      s.slc.claim ≠ .sending ∧ s.ssv.mode ≠ .unconfigured ∧ h.sender = 0 ∧ (1#4).toNat ≤ 1 ∧ 1 < (2#4).toNat ∧
      ({ h with sender := 1 } : FrameHeader).sender ≠ 0 ∧ s.ptb.demand.lastSeq ≠ some h.seq ∧
      ({ s.ptb.demand with lastSeq := some 7 } : DemandRecord).lastSeq = some h.seq := by decide

theorem witness_FramesNotApplied :
    let s := hearing .sharing
    (hearing .unconfigured).ssv.mode = .unconfigured ∧ s.ssv.mode ≠ .unconfigured ∧
      (⟨1, .urgent, 0⟩ : FrameHeader).sender.toNat = s.ssv.ownNumber.val ∧
      (⟨0, .urgent, 0⟩ : FrameHeader).sender = 0 ∧ 8 ≤ (⟨8, .urgent, 0⟩ : FrameHeader).sender.toNat ∧
      (⟨7, .urgent, 0⟩ : FrameHeader).sender.toNat ≠ s.ssv.ownNumber.val ∧
      (⟨3, false, false, false, 0, 0, 0, 0, 0, 0, 0⟩ : StatusPayload).health = 3 ∧
      3 ≤ (⟨3, 0, 0, 0⟩ : SlipAlertPayload).sense.toNat ∧ 5 ≤ (⟨5⟩ : FaultPayload).cause.toNat := by decide

theorem witness_FramesApplied :
    let s := hearing .sharing
    s.slc.line = .frame ∧ s.slc.reception = .receiving ∧ s.slc.claim ≠ .sending ∧ s.ssv.mode ≠ .unconfigured ∧
      (⟨7, .routine, 0⟩ : FrameHeader).sender.toNat = (7 : StationNumber).val ∧ (7 : StationNumber) ≠ 0 ∧
      (7 : StationNumber) ≠ s.ssv.ownNumber ∧ (2#2).toNat = Health.withdrawn.code ∧ (0#2).toNat = Health.joining.code ∧
      (s.ptb.entry 7).state = .absent ∧ ((withPeer s 7 (livePeer 0)).ptb.entry 7).state ≠ .absent ∧
      (1#8).toNat = FaultCause.clash.code ∧ (4#8).toNat = FaultCause.localRequest.code := by decide

theorem witness_StatusTransitions :
    let e := livePeer 0
    let j : PeerEntry := { e with state := .joining, joinCount := 2 }
    e.lastSeq = some 9 ∧ (11 : Seq) ≠ 9 + 1 ∧ (10 : Seq) = 9 + 1 ∧ PeerEntry.cleared.state = .absent ∧
      PeerEntry.cleared.lastSeq = none ∧ j.state = .joining ∧ j.joinCount = 2 ∧
      ({ j with joinCount := 1 } : PeerEntry).joinCount ≤ 1 ∧ e.state = .live := by decide

theorem witness_DiscordCheck :
    let w : ShareVector := ⟨[⟨2, 500, false⟩, ⟨3, 100, true⟩], 600, .propulsive, some 41, 0⟩
    let c : StatusContent := ⟨.sharing, 0, 0, 0, 0, 600, some 41, false, false, 16⟩
    entryOf w.entries 2 = some ⟨2, 500, false⟩ ∧ c.demandSeq = some 41 ∧ w.seqUsed = some 41 ∧
      (livePeer 0).state = .live ∧ (livePeer 0).discordant = false ∧ c.rateLimited = false ∧
      (c.reported - 500).natAbs ≤ 100 ∧ 99 < (c.reported - 500).natAbs ∧ entryOf w.entries 4 = none ∧
      entryOf w.entries 3 = some ⟨3, 100, true⟩ := by decide

theorem witness_TableTimers :
    let d : DemandRecord := { DemandRecord.cleared with state := .fresh, lastSeq := some 7, timer := .running 20 }
    let s := withPeer (station .sharing) 7 (livePeer 0)
    d.timer = .running 20 ∧ d.state = .fresh ∧ d.lastSeq = some 7 ∧ (s.ptb.entry 7).silenceTimer = .running 20 ∧
      (s.ptb.entry 7).state = .live ∧ ({ livePeer 0 with state := .joining } : PeerEntry).state = .joining ∧
      ({ livePeer 0 with state := .withdrawn } : PeerEntry).silenceTimer = .running 20 := by decide

theorem witness_PublishTimerExpires :
    (station .safe).fsc.publishTimer = .running 5 ∧ (station .safe).ssv.mode ≠ .unconfigured := by decide

/-- The hypotheses of every statement about a completion. -/
theorem witness_Completions :
    (computing .fresh).spe.state = .busy ∧ (computing .fresh).spe.snapshot = some (snap .fresh) ∧
      (snap .fresh).demandState = .fresh ∧ (computing .stale).spe.snapshot = some (snap .stale) ∧
      (computing .none).spe.snapshot = some (snap .none) ∧ (computing .fresh).lpt.holding = none ∧
      ({ (computing .fresh).lpt with holding := some ⟨6, 0, 0, 0, 0⟩ } : LocalPort).holding = some ⟨6, 0, 0, 0, 0⟩ ∧
      4 ≤ (snap .fresh).grip ∧ (snap .fresh).grip = 16 ∧ ({ snap .fresh with grip := 4 } : Snapshot).grip = 4 ∧
      (100 : Int).natAbs ≤ 100 ∧ (-20000 : Int).natAbs ≤ 20000 := by decide

theorem witness_Participants :
    (snap .fresh).peers.Pairwise (fun a b => a.number < b.number) ∧ (∀ p ∈ (snap .fresh).peers, p.number ≠ 1) ∧
      (snap .fresh).mode = .sharing ∧ ({ snap .fresh with mode := .safe } : Snapshot).mode ≠ .sharing := by decide

/-- Without participants the shortfall is 0 whatever the demand: 1.10.6, its last paragraph (R17). -/
theorem test_division_empty : divide 5000 .propulsive [] = ⟨[], 0⟩ ∧ divide (-16000) .retarding [] = ⟨[], 0⟩ := by decide

theorem witness_DivisionCarriesDemand :
    ([] : List Participant).Pairwise (fun a b => a.number < b.number) ∧ [(⟨1, 3600, 380, 0, false⟩ : Participant), ⟨2, 2700, 560, 2000, true⟩].Pairwise (fun a b => a.number < b.number) ∧
      [(⟨1, 3600, 380, 0, false⟩ : Participant)] ≠ [] ∧ Sense.propulsive ≠ .none := by decide

/-- A pass that hands out a residual, one with a saturated member, and one without capacity: 1.10.2, 1.10.1 and 1.10.6. -/
theorem witness_WaterFillPass :
    let goal (ps : List Participant) (m : Nat) (p : Participant) : Nat := m * p.weight / (ps.map (·.weight)).sum
    let even : List Participant := [⟨2, 4000, 300, 0, false⟩, ⟨4, 4000, 300, 0, false⟩, ⟨6, 4000, 200, 0, false⟩]
    let tight : List Participant := [⟨1, 3600, 380, 0, false⟩, ⟨2, 2700, 560, 0, false⟩, ⟨3, 3600, 560, 0, false⟩]
    even.Pairwise (fun a b => a.number < b.number) ∧ 1003 < (even.map (·.cap)).sum ∧
      even.filter (fun p => decide (p.cap ≤ goal even 1003 p)) = [] ∧
      tight.Pairwise (fun a b => a.number < b.number) ∧ 9000 < (tight.map (·.cap)).sum ∧
      tight.filter (fun p => decide (p.cap ≤ goal tight 9000 p)) ≠ [] ∧
      ([⟨3, 3600, 300, 0, false⟩].map (fun p : Participant => p.cap)).sum ≤ 5000 := by decide

theorem witness_CommandStageCompletes :
    CommandStage.afterReset.sag = .clear ∧ ({ CommandStage.afterReset with sag := .inSag } : CommandStage).sag = .inSag ∧
      CommandStage.afterReset.sense = .none ∧ (handOff 2700 .propulsive .normal 640).mode = .sharing ∧
      (handOff 2700 .propulsive .normal 640).sense ≠ .none ∧ (2700 - 2400 : Int).natAbs ≤ 300 ∧
      300 < (2700 - 2399 : Int).natAbs := by decide

theorem witness_MotorCommand :
    0 < 576 ∧ (9000 : Int).natAbs * 640 ≤ 10000 * 576 ∧ 10000 * 576 ≤ (9000 : Int).natAbs * 640 ∧
      (3600 : Int).natAbs ≤ wheelCap 576 4000 := by decide

theorem witness_WheelEvents :
    State.reset.wcu.chB.enabled = false ∧ (station .sharing).wcu.chA.enabled = true ∧
      (station .sharing).wcu.chA.lastEdge = none ∧
      ({ (station .sharing).wcu.chA with lastEdge := some 16777200 } : WheelChannel).lastEdge = some 16777200 ∧
      (83 - 16777200 : TimeStamp).toNat < cfg.minToothPeriod ∧ cfg.minToothPeriod ≤ (84 - 16777200 : TimeStamp).toNat ∧
      ({ (station .sharing).wcu.chB with stopTimer := .running 250 } : WheelChannel).stopTimer = .running 250 := by decide

theorem witness_ReferenceSpeed :
    (monitoring .watching 4800 0 0).reference = some 4800 ∧ (station .sharing).reference = none := by decide

theorem witness_BlockedSample :
    (monitoring .confirming 1499 0 1).slm.sampleTimer = .running 5 ∧ (monitoring .confirming 1499 0 1).slm.state ≠ .off ∧
      cfg.blockingMode = .launch ∧ (monitoring .confirming 1499 0 1).reference = some 1499 ∧ 1499 < cfg.launchSpeed ∧
      (monitoring .settling 4800 0 0).slm.state = .settling := by decide

theorem witness_JudgedSample :
    let s := monitoring .watching 1500 1590 0
    s.slm.sampleTimer = .running 5 ∧ s.slm.state ≠ .off ∧ s.reference = some 1500 ∧
      s.spe.inForce.sense = s.slm.lastSense ∧ s.slm.state ≠ .settling ∧ s.spe.inForce.sense ≠ .none ∧
      cfg.launchSpeed ≤ 1500 ∧ min 1000 (1000 * (1590 - 1500) / max 1500 500) ≤ 0 + 60 ∧
      0 + 60 < min 1000 (1000 * (1592 - 1500) / max 1500 500) ∧ s.slm.confirmCount + 1 < cfg.confirmNumber := by decide

theorem witness_SlipEvent :
    let s := monitoring .confirming 4820 5500 1
    s.slm.sampleTimer = .running 5 ∧ s.slm.state = .confirming ∧ s.reference = some 4820 ∧
      s.spe.inForce.sense = s.slm.lastSense ∧ s.spe.inForce.sense ≠ .none ∧ cfg.launchSpeed ≤ 4820 ∧
      s.slm.baseline + cfg.slipThreshold < min 1000 (1000 * (5500 - 4820) / max 4820 500) ∧
      cfg.confirmNumber ≤ s.slm.confirmCount + 1 := by decide

/-- 7.10.2 with a settle time of 0 and a confirm number of 1, on the sample that changes the sense (R123). -/
def confirmingChange : State :=
  let s := monitoring .recovering 4820 5500 0
  { s with
    config := { cfg with settleTime := 0, confirmNumber := 1 }
    slm := { s.slm with lastSense := .retarding, grip := 8, slipCap := some ⟨900, .retarding⟩ } }

theorem witness_SlipEvent_on_a_change :
    let s := confirmingChange
    s.slm.sampleTimer = .running 5 ∧ s.slm.state ≠ .off ∧ s.reference = some 4820 ∧
      s.spe.inForce.sense ≠ s.slm.lastSense ∧ s.config.settleTime = 0 ∧ s.spe.inForce.sense ≠ .none ∧
      s.config.launchSpeed ≤ 4820 ∧
      0 + cfg.slipThreshold < min 1000 (1000 * (5500 - 4820) / max 4820 500) ∧ s.config.confirmNumber ≤ 0 + 1 := by decide

/-- The slip event of a sample that changes the sense (R123, R131, R133). -/
theorem test_slip_event_on_a_change :
    let s := after (exec .slipSample confirmingChange)
    s.slm.state = .recovering ∧ s.slm.grip = 4 ∧ s.slm.slipCap = some ⟨2025, .propulsive⟩ ∧ s.slm.slipEvents = 1 := by
  decide +kernel

theorem witness_SettlingAndRecovery :
    let m := (monitoring .recovering 4800 0 0).slm
    ({ m with state := .settling, settleTimer := .running 100 } : Monitor).settleTimer = .running 100 ∧
      ({ m with grip := 15, gripTimer := .running 200 } : Monitor).gripTimer = .running 200 ∧ m.state = .recovering ∧
      m.slipCap = none ∧ 15 ≤ ({ m with grip := 15 } : Monitor).grip ∧ ({ m with grip := 14 } : Monitor).grip < 15 ∧
      ({ m with slipCap := some ⟨3500, .propulsive⟩, capTimer := .running 200 } : Monitor).capTimer = .running 200 ∧
      3500 + cfg.recoveryStep ≥ (monitoring .recovering 4800 0 0).cms.caps.prop ∧
      3499 + cfg.recoveryStep < (monitoring .recovering 4800 0 0).cms.caps.prop := by decide

/-- Records of every outcome: too short, a failed check byte, each kind byte, and a kind byte of none; unused bytes stay free. -/
theorem witness_RecordsReadBack_inward :
    let sum (bs : List Byte) : Nat := (bs.map BitVec.toNat).sum % 256
    let record (kind unused check : Byte) : List Byte := [kind] ++ List.replicate 45 0 ++ [unused, check]
    (List.replicate 47 (0 : Byte)).length = (47 : Fin 48).val ∧ 48 ≤ (record 1 0 0).length ∧ sum ((record 1 0 0).take 48) ≠ 0 ∧
      (∀ kind ∈ [(1 : Byte), 2, 3, 4, 5, 6, 7, 8, 9, 0], sum ((record kind 7 (-kind - 7)).take 48) = 0) ∧
      8 < (9 : Byte).toNat ∧ ([true] : List Bool).length < 8 := by decide +kernel

theorem witness_RecordsReadBack :
    (Instr.setup (setupAt true)).wellFormed = true ∧ (recordBytes (.setup (setupAt true))).isSome = true ∧
      (recordBytes (.unknownRecordKind 9)).isSome = true ∧ (inExchange State.reset).lpt.inExchange = true ∧
      (inExchange State.reset).lpt.received = [] ∧ State.reset.lpt.inExchange = false ∧
      (inExchange State.reset).lpt.outgoing = some (.ack .setup) := by decide +kernel

/-- Receptions of every outcome: no byte, no kind, too short, a CRC that does not match, and each kind with one that does. -/
theorem witness_FramesReadBack_inward :
    let frame (kind : Byte) (n : Nat) : List Byte := sealFrame (kind :: 0xF5 :: List.replicate (n - 4) 0xFF)
    (0x50 : Byte) ≠ 0x51 ∧ (0x55 : Byte) ≠ 0x54 ∧ ([0x51, 0, 0, 0, 0, 0, 0] : List Byte).length < 8 ∧
      crc16 ([0x51, 0, 0, 0, 0, 0, 0, 0].take 6) ≠ (0#8 ++ 0#8) ∧
      ∀ c ∈ [((0x51 : Byte), 8), (0x52, 18), (0x53, 12), (0x54, 6)],
        (frame c.1 c.2).length = c.2 ∧ crc16 ((frame c.1 c.2).take (c.2 - 2)) = halfAt (frame c.1 c.2) (c.2 - 1) := by
  decide +kernel

theorem witness_FramesReadBack :
    (frameBytes (.demandFrame ⟨15, .routine, 255⟩ ⟨0xFFFF, 15, 15⟩)).isSome = true ∧
      (hearing .sharing).slc.reception = .receiving ∧ (hearing .sharing).slc.received = [] ∧ figures.propCap ≤ 8000 ∧
      figures.retCap ≤ 8000 ∧ figures.weight ≤ 1000 ∧ figures.axleSpeed ≤ 65535 ∧ figures.held.natAbs ≤ 8000 ∧
      4 ≤ figures.grip ∧ figures.grip ≤ 16 ∧
      (let a : SlipAlert := ⟨.retarding, 8000, 1000, 1000⟩
       a.sense ≠ .none ∧ a.newCap ≤ 8000 ∧ a.newWeight ≤ 1000 ∧ a.slip ≤ 1000) := by decide +kernel

/-! ## The invariants hold in a state other than reset -/

theorem witness_WheelsStaySafe : (station .sharing).WheelSafe := by
  refine ⟨?_, ?_, by decide, by decide, by decide⟩ <;>
    exact ⟨by decide, by decide, by decide, by decide, by decide, by decide⟩

theorem witness_PortAndCountersStaySafe : (station .sharing).PortSafe ∧ (station .sharing).CountersSafe := by
  refine ⟨⟨by decide, by decide, fun ms h => ?_, by decide, by decide, by decide, by decide⟩, ?_⟩
  · cases h
  · exact ⟨by decide, by decide, by decide, by decide, by decide, by decide, by decide, by decide, by decide, by decide⟩

theorem witness_SupervisorStaysSafe : (station .safe).SupervisorSafe := by
  exact ⟨by decide, by decide, by decide, by decide, by decide⟩

theorem witness_LinkStaysSafe : (hearing .sharing).LinkSafe := by
  refine ⟨by decide, fun t h => ?_, fun t h => ?_, by decide, by decide, by decide, by decide, by decide, by decide,
    by decide, by decide, by decide⟩ <;> cases h

/-- The station in SHARING with its Slip Monitor WATCHING. -/
def watching : State :=
  let s := station .sharing
  { s with slm := { s.slm with state := .watching, sampleTimer := .running 5 } }

theorem witness_SchedulerStaysSafe : watching.SchedulerSafe := by
  refine ⟨by decide, by decide, fun a h => ?_, fun f h => ?_, by decide, by decide, by decide, by decide⟩
  · cases h
  · cases h

theorem watching_config : watching.ConfigSafe := by
  intro _
  refine ⟨?_, by decide⟩
  constructor <;> decide

theorem watching_table : watching.TableSafe := by
  refine ⟨⟨by decide, by decide, by decide, by decide⟩, fun n => ?_, by decide, by decide⟩
  have h : ∀ n, watching.ptb.entry n = .cleared := by decide
  rw [h n]
  exact ⟨by decide, by decide, by decide, by decide, by decide, by decide, fun k hk => (by cases hk), by decide, by decide,
    by decide, by decide, by decide, by decide, by decide⟩

theorem watching_monitor : watching.MonitorSafe := by
  exact ⟨by decide, by decide, by decide, by decide, by decide, by decide, by decide, fun c hc => (by cases hc), by decide,
    by decide, by decide, by decide, by decide, by decide, by decide, fun v hv => (by cases hv), by decide⟩

theorem watching_engine : watching.EngineSafe := by
  exact ⟨by decide, by decide, by decide, fun sn h => (by cases h), fun m h => (by cases h), ⟨by decide, by decide⟩,
    by decide, by decide, fun v h => (by cases h)⟩

theorem watching_command : watching.CommandSafe := by
  exact ⟨by decide, by decide, by decide, by decide, by decide, by decide, by decide⟩

theorem witness_TorqueStaysSafe : watching.TorqueSafe :=
  ⟨watching_config, watching_table, watching_monitor, watching_engine, watching_command⟩

/-- Steps to which the invariants apply: an event on each state above. -/
theorem witness_steps :
    (∃ t, step { station .sharing with pending := [.toothEdge .a 0] } = .next t) ∧
      (∃ t, step { station .safe with pending := [.measureTimerExpiry] } = .next t) ∧
      (∃ t, step { hearing .sharing with pending := [.busFreeTime] } = .next t) ∧
      ∃ t, step { watching with pending := [.slipSample] } = .next t :=
  ⟨⟨_, rfl⟩, ⟨_, rfl⟩, ⟨_, rfl⟩, ⟨_, rfl⟩⟩

end Sys2Proof.Tests
end

section
/-! PROOFS. The water-fill (R19 to R21) and the division of a demand (R17 to R22). -/

namespace Sys2Proof.Machine

/-! ## Rounded quotients in a sum -/

section
variable {α : Type}

theorem sum_div_mul_le (l : List α) (f : α → Nat) (d : Nat) :
    (l.map (fun x => f x / d)).sum * d ≤ (l.map f).sum := by
  induction l with
  | nil => simp
  | cons x xs ih =>
    have hx : f x / d * d ≤ f x := Nat.div_mul_le_self (f x) d
    simp only [List.map_cons, List.sum_cons, Nat.add_mul]
    omega

theorem sum_add_length_le_sum_div_mul (l : List α) (f : α → Nat) {d : Nat} (hd : 0 < d) :
    (l.map f).sum + l.length ≤ ((l.map (fun x => f x / d)).sum + l.length) * d := by
  induction l with
  | nil => simp
  | cons x xs ih =>
    have hx : f x < (f x / d + 1) * d := Nat.lt_mul_of_div_lt (Nat.lt_succ_self _) hd
    simp only [List.map_cons, List.sum_cons, List.length_cons, Nat.add_mul] at hx ih ⊢
    omega

theorem sum_filter_le_sum (l : List α) (f : α → Nat) (P : α → Bool) : ((l.filter P).map f).sum ≤ (l.map f).sum :=
  ((List.filter_sublist (p := P) (l := l)).map f).sum_le_sum fun _ _ => Nat.zero_le _

theorem sum_map_add_sum_map_sub (l : List α) (f g : α → Nat) (h : ∀ x ∈ l, f x ≤ g x) :
    (l.map f).sum + (l.map (fun x => g x - f x)).sum = (l.map g).sum := by
  rw [← List.sum_map_add]
  exact congrArg List.sum (List.map_congr_left fun x hx => Nat.add_sub_of_le (h x hx))

end

/-! ## Targets (R20) -/

theorem target_by_weight {ps : List Participant} (hW : 0 < weightSum ps) (m : Nat) :
    target ps m = fun p => m * p.weight / weightSum ps := funext fun _ => if_pos hW

theorem target_even {ps : List Participant} (hW : ¬0 < weightSum ps) (m : Nat) :
    target ps m = fun _ => m / ps.length := funext fun _ => if_neg hW

theorem sum_mul_weight (ps : List Participant) (m : Nat) : (ps.map (fun p => m * p.weight)).sum = m * weightSum ps :=
  List.sum_map_mul_left ps _ m

/-- The targets are rounded down, so together they leave the remainder enough. -/
theorem sum_target_le (ps : List Participant) (m : Nat) : (ps.map (target ps m)).sum ≤ m := by
  by_cases hW : 0 < weightSum ps
  · have hle := sum_div_mul_le ps (fun p => m * p.weight) (weightSum ps)
    rw [sum_mul_weight] at hle
    rw [target_by_weight hW]
    exact Nat.le_of_mul_le_mul_right hle hW
  · simpa [target_even hW] using Nat.mul_div_le m ps.length

/-- Each target loses less than 1 to rounding. -/
theorem lt_sum_target_add_length {ps : List Participant} (hne : ps ≠ []) (m : Nat) :
    m < (ps.map (target ps m)).sum + ps.length := by
  have hlen : 0 < ps.length := List.length_pos_iff.mpr hne
  by_cases hW : 0 < weightSum ps
  · have hle := sum_add_length_le_sum_div_mul ps (fun p => m * p.weight) hW
    rw [sum_mul_weight] at hle
    rw [target_by_weight hW]
    exact Nat.lt_of_mul_lt_mul_right (a := weightSum ps) (by omega)
  · simpa [target_even hW, Nat.mul_add] using Nat.lt_mul_div_succ m hlen

/-! ## The members that saturate in a pass, and the others (R20) -/

/-- The members whose targets reach their caps. -/
def saturated (ps : List Participant) (m : Nat) : List Participant := ps.filter (fun p => p.cap ≤ target ps m p)

/-- The members with headroom over their targets. -/
def unsaturated (ps : List Participant) (m : Nat) : List Participant := ps.filter (fun p => target ps m p < p.cap)

theorem mem_saturated {ps : List Participant} {m : Nat} {p : Participant} :
    p ∈ saturated ps m ↔ p ∈ ps ∧ p.cap ≤ target ps m p := by simp [saturated]

theorem mem_unsaturated {ps : List Participant} {m : Nat} {p : Participant} :
    p ∈ unsaturated ps m ↔ p ∈ ps ∧ target ps m p < p.cap := by simp [unsaturated]

theorem saturated_eq_nil {ps : List Participant} {m : Nat} : saturated ps m = [] ↔ ∀ p ∈ ps, target ps m p < p.cap := by
  simp [saturated, List.filter_eq_nil_iff]

theorem unsaturated_eq_filter_not (ps : List Participant) (m : Nat) :
    unsaturated ps m = ps.filter (fun p => !decide (p.cap ≤ target ps m p)) := by
  simp [unsaturated, ← decide_not]

theorem saturated_append_unsaturated_perm (ps : List Participant) (m : Nat) :
    (saturated ps m ++ unsaturated ps m).Perm ps := by
  rw [unsaturated_eq_filter_not]
  exact List.filter_append_perm _ ps

theorem capSum_perm {ps qs : List Participant} (h : ps.Perm qs) : capSum ps = capSum qs := (h.map _).sum_eq

theorem capSum_append (ps qs : List Participant) : capSum (ps ++ qs) = capSum ps + capSum qs := by simp [capSum]

theorem capSum_saturated_add (ps : List Participant) (m : Nat) :
    capSum (saturated ps m) + capSum (unsaturated ps m) = capSum ps := by
  rw [← capSum_append, capSum_perm (saturated_append_unsaturated_perm ps m)]

/-- The caps of the members that leave are within the remainder, for they are within the targets. -/
theorem capSum_saturated_le (ps : List Participant) (m : Nat) : capSum (saturated ps m) ≤ m :=
  calc capSum (saturated ps m)
    _ ≤ ((saturated ps m).map (target ps m)).sum := List.sum_le_sum fun _ hp => (mem_saturated.mp hp).2
    _ ≤ (ps.map (target ps m)).sum := sum_filter_le_sum ps _ _
    _ ≤ m := sum_target_le ps m

/-- Where the caps exceed the remainder, some member does not saturate. -/
theorem unsaturated_ne_nil {ps : List Participant} {m : Nat} (hm : m < capSum ps) : unsaturated ps m ≠ [] := by
  intro hnil
  have hsplit := capSum_saturated_add ps m
  have hle := capSum_saturated_le ps m
  have hzero : capSum (unsaturated ps m) = 0 := by rw [hnil]; rfl
  omega

theorem length_unsaturated_lt {ps : List Participant} {m : Nat} (hfull : saturated ps m ≠ []) :
    (unsaturated ps m).length < ps.length := by
  have hlen := (saturated_append_unsaturated_perm ps m).length_eq
  have hpos := List.length_pos_iff.mpr hfull
  rw [List.length_append] at hlen
  omega

/-! ## One pass (R19 to R21) -/

theorem waterFill_of_capSum_le {ps : List Participant} {m : Nat} (h : capSum ps ≤ m) (passes : Nat) :
    waterFill passes ps m = fillAtCaps ps m := by
  cases passes with
  | zero => rfl
  | succ k => exact if_pos h

theorem waterFill_of_saturated {ps : List Participant} {m : Nat} (hm : m < capSum ps) (hfull : saturated ps m ≠ [])
    (passes : Nat) :
    waterFill (passes + 1) ps m =
      let next := waterFill passes (unsaturated ps m) (m - capSum (saturated ps m))
      ⟨(saturated ps m).map (fun p => (p.number, p.cap)) ++ next.shares, next.shortfall⟩ := by
  rw [waterFill, if_neg (Nat.not_le.mpr hm)]
  exact if_neg hfull

theorem waterFill_of_unsaturated {ps : List Participant} {m : Nat} (hm : m < capSum ps) (hnone : saturated ps m = [])
    (passes : Nat) : waterFill (passes + 1) ps m = fillAtTargets ps m := by
  rw [waterFill, if_neg (Nat.not_le.mpr hm)]
  exact if_pos hnone

theorem length_pos_of_lt_capSum {ps : List Participant} {m : Nat} (hm : m < capSum ps) : 0 < ps.length := by
  cases ps with
  | nil => exact absurd hm (Nat.not_lt_zero m)
  | cons p ps => exact Nat.succ_pos _

/-- A fill ends within as many passes as its open set has members, so further passes change nothing (1.7). -/
theorem waterFill_passes (ps : List Participant) (m : Nat) {j k : Nat} (hj : ps.length ≤ j) (hk : ps.length ≤ k) :
    waterFill j ps m = waterFill k ps m := by
  induction j generalizing ps m k with
  | zero =>
    obtain rfl : ps = [] := List.length_eq_zero_iff.mp (Nat.le_zero.mp hj)
    rw [waterFill_of_capSum_le (Nat.zero_le m), waterFill_of_capSum_le (Nat.zero_le m)]
  | succ j ih =>
    rcases Nat.lt_or_ge m (capSum ps) with hm | hm
    · obtain ⟨k, rfl⟩ : ∃ i, k = i + 1 := ⟨k - 1, by have := length_pos_of_lt_capSum hm; omega⟩
      by_cases hfull : saturated ps m = []
      · rw [waterFill_of_unsaturated hm hfull, waterFill_of_unsaturated hm hfull]
      · have hlen := length_unsaturated_lt hfull
        rw [waterFill_of_saturated hm hfull, waterFill_of_saturated hm hfull,
          ih (unsaturated ps m) _ (k := k) (by omega) (by omega)]
    · rw [waterFill_of_capSum_le hm, waterFill_of_capSum_le hm]

/-! ## The hand-out of the residual (R21) -/

/-- The member `q` is served before `p`: greater weight, or the lower number at equal weight. -/
def servedBefore (p q : Participant) : Bool := p.weight < q.weight ∨ (q.weight = p.weight ∧ q.number < p.number)

theorem servedBefore_irrefl (p : Participant) : servedBefore p p = false := by simp [servedBefore]

theorem servedBefore_asymm {p q : Participant} (h : servedBefore q p = true) : servedBefore p q = false := by
  simp only [servedBefore, decide_eq_true_eq, decide_eq_false_iff_not, Fin.lt_def] at h ⊢
  omega

theorem servedBefore_of_handOutBefore {p q : Participant} (h : handOutBefore p q = true) (hne : p.number ≠ q.number) :
    servedBefore q p = true := by
  simp only [handOutBefore, servedBefore, Bool.or_eq_true, Bool.and_eq_true, decide_eq_true_eq, beq_iff_eq,
    Fin.lt_def, Fin.le_def, ne_eq, Fin.ext_iff] at h hne ⊢
  omega

theorem handOutBefore_total (p q : Participant) : handOutBefore p q = true ∨ handOutBefore q p = true := by
  simp only [handOutBefore, Bool.or_eq_true, Bool.and_eq_true, decide_eq_true_eq, beq_iff_eq, Fin.le_def]
  omega

theorem handOutBefore_trans {p q r : Participant} (hpq : handOutBefore p q = true) (hqr : handOutBefore q r = true) :
    handOutBefore p r = true := by
  simp only [handOutBefore, Bool.or_eq_true, Bool.and_eq_true, decide_eq_true_eq, beq_iff_eq, Fin.le_def] at hpq hqr ⊢
  omega

theorem insertByWeight_eq_orderedInsert (x : Participant) (ps : List Participant) :
    insertByWeight x ps = ps.orderedInsert (fun p q => handOutBefore p q = true) x := by
  induction ps with
  | nil => rfl
  | cons p ps ih => rw [insertByWeight, ih]; rfl

theorem byWeight_eq_insertionSort (ps : List Participant) :
    byWeight ps = ps.insertionSort (fun p q => handOutBefore p q = true) := by
  induction ps with
  | nil => rfl
  | cons p ps ih => rw [byWeight, ih, insertByWeight_eq_orderedInsert, List.insertionSort_cons]

theorem byWeight_perm (ps : List Participant) : (byWeight ps).Perm ps := by
  rw [byWeight_eq_insertionSort]
  exact List.perm_insertionSort _ ps

theorem byWeight_pairwise_handOutBefore (ps : List Participant) :
    (byWeight ps).Pairwise (fun p q => handOutBefore p q = true) := by
  have : Std.Total (fun p q : Participant => handOutBefore p q = true) := ⟨handOutBefore_total⟩
  have : IsTrans Participant (fun p q => handOutBefore p q = true) := ⟨fun _ _ _ => handOutBefore_trans⟩
  rw [byWeight_eq_insertionSort]
  exact List.pairwise_insertionSort _ ps

/-- Among distinct stations the order of the hand-out is strict. -/
theorem byWeight_pairwise_servedBefore {ps : List Participant} (hps : (ps.map (·.number)).Nodup) :
    (byWeight ps).Pairwise (fun p q => servedBefore q p = true) := by
  have hnum : (byWeight ps).Pairwise (fun p q => p.number ≠ q.number) :=
    List.pairwise_map.mp (((byWeight_perm ps).map _).nodup_iff.mpr hps)
  exact (byWeight_pairwise_handOutBefore ps).imp₂ (fun _ _ => servedBefore_of_handOutBefore) hnum

theorem handOut_numbers (goal : Participant → Nat) (r : Nat) (ps : List Participant) :
    (handOut goal r ps).map Prod.fst = ps.map (·.number) := by
  induction ps generalizing r with
  | nil => rfl
  | cons p ps ih => simp [handOut, ih]

/-- The hand-out gives out all of the residual that the headrooms take together. -/
theorem handOut_sum (goal : Participant → Nat) (r : Nat) (ps : List Participant) :
    ((handOut goal r ps).map Prod.snd).sum = (ps.map goal).sum + min r (ps.map (fun p => p.cap - goal p)).sum := by
  induction ps generalizing r with
  | nil => simp [handOut]
  | cons p ps ih =>
    simp only [handOut, List.map_cons, List.sum_cons, ih]
    omega

/-- Along a strict order, a member finds the residual less the headrooms of those served before it. -/
theorem handOut_eq_map (goal : Participant → Nat) (r : Nat) {ps : List Participant}
    (hps : ps.Pairwise (fun p q => servedBefore q p = true)) :
    handOut goal r ps = ps.map (fun p =>
      (p.number, goal p + min (r - ((ps.filter (servedBefore p)).map (fun q => q.cap - goal q)).sum) (p.cap - goal p))) := by
  induction ps generalizing r with
  | nil => rfl
  | cons p ps ih =>
    obtain ⟨hp, htail⟩ := List.pairwise_cons.mp hps
    have hfirst : (p :: ps).filter (servedBefore p) = [] := by
      simpa [List.filter_eq_nil_iff, servedBefore_irrefl] using fun q hq => servedBefore_asymm (hp q hq)
    simp only [handOut, ih _ htail, List.map_cons, hfirst, List.map_nil, List.sum_nil, Nat.sub_zero]
    congr 1
    refine List.map_congr_left fun q hq => ?_
    simp only [List.filter_cons, hp q hq, if_true, List.map_cons, List.sum_cons]
    congr 2
    omega

/-! ## The share of a station in a fill -/

theorem shareOf_cons (n k : StationNumber) (x : Nat) (shares : List (StationNumber × Nat)) :
    shareOf ((n, x) :: shares) k = if n = k then x else shareOf shares k := by
  by_cases h : n = k <;> simp [shareOf, h]

theorem shareOf_of_mem {shares : List (StationNumber × Nat)} (hnd : (shares.map Prod.fst).Nodup) {n : StationNumber}
    {x : Nat} (h : (n, x) ∈ shares) : shareOf shares n = x := by
  induction shares with
  | nil => cases h
  | cons s shares ih =>
    obtain ⟨k, y⟩ := s
    obtain ⟨hk, hnd⟩ := List.nodup_cons.mp hnd
    rw [shareOf_cons]
    rcases List.mem_cons.mp h with heq | hmem
    · injection heq with hn hx
      rw [if_pos hn.symm, hx]
    · have hne : k ≠ n := by
        rintro rfl
        exact hk (List.mem_map.mpr ⟨_, hmem, rfl⟩)
      rw [if_neg hne, ih hnd hmem]

/-- Shares read back by station sum to the shares listed. -/
theorem sum_shareOf {shares : List (StationNumber × Nat)} {ns : List StationNumber}
    (hkeys : (shares.map Prod.fst).Perm ns) (hnd : ns.Nodup) :
    (ns.map (shareOf shares)).sum = (shares.map Prod.snd).sum := by
  have hread : (shares.map Prod.fst).map (shareOf shares) = shares.map Prod.snd := by
    rw [List.map_map]
    exact List.map_congr_left fun s hs => shareOf_of_mem (hkeys.nodup_iff.mpr hnd) hs
  rw [← hread, (hkeys.map _).sum_eq]

theorem nodup_numbers {ps : List Participant} (hps : ps.Pairwise (fun a b => a.number < b.number)) :
    (ps.map (·.number)).Nodup :=
  List.pairwise_map.mpr (hps.imp ne_of_lt)

/-! ## What every fill settles -/

/-- A fill of a remainder over an open set: a share for each member, each within its cap; together the lesser of the
remainder and the caps; the rest the shortfall. -/
structure Fill.Carries (f : Fill) (ps : List Participant) (m : Nat) : Prop where
  numbers : (f.shares.map Prod.fst).Perm (ps.map (·.number))
  capped : ∀ s ∈ f.shares, ∃ p ∈ ps, p.number = s.1 ∧ s.2 ≤ p.cap
  total : (f.shares.map Prod.snd).sum = min m (capSum ps)
  short : f.shortfall = m - capSum ps

theorem fillAtCaps_carries {ps : List Participant} {m : Nat} (h : capSum ps ≤ m) : (fillAtCaps ps m).Carries ps m where
  numbers := by simp [fillAtCaps, Function.comp_def]
  capped := by
    simp only [fillAtCaps, List.mem_map]
    rintro _ ⟨p, hp, rfl⟩
    exact ⟨p, hp, rfl, le_rfl⟩
  total := by
    rw [min_eq_right h]
    simp [fillAtCaps, capSum, Function.comp_def]
  short := rfl

theorem handOut_capped {goal : Participant → Nat} {ps : List Participant} (hgoal : ∀ p ∈ ps, goal p ≤ p.cap) (r : Nat) :
    ∀ s ∈ handOut goal r ps, ∃ p ∈ ps, p.number = s.1 ∧ s.2 ≤ p.cap := by
  induction ps generalizing r with
  | nil => simp [handOut]
  | cons p ps ih =>
    obtain ⟨hp, hps⟩ := List.forall_mem_cons.mp hgoal
    simp only [handOut, List.mem_cons]
    rintro s (rfl | hs)
    · exact ⟨p, .inl rfl, rfl, by dsimp only; omega⟩
    · obtain ⟨q, hq, hnum, hcap⟩ := ih hps _ s hs
      exact ⟨q, .inr hq, hnum, hcap⟩

theorem fillAtTargets_carries {ps : List Participant} {m : Nat} (hm : m < capSum ps) (hnone : saturated ps m = []) :
    (fillAtTargets ps m).Carries ps m where
  numbers := by
    simp only [fillAtTargets, handOut_numbers]
    exact (byWeight_perm ps).map _
  capped s hs := by
    have hgoal : ∀ p ∈ byWeight ps, target ps m p ≤ p.cap := fun p hp =>
      (saturated_eq_nil.mp hnone p ((byWeight_perm ps).mem_iff.mp hp)).le
    obtain ⟨p, hp, hbound⟩ := handOut_capped hgoal _ s hs
    exact ⟨p, (byWeight_perm ps).mem_iff.mp hp, hbound⟩
  total := by
    have hgoals : ((byWeight ps).map (target ps m)).sum = (ps.map (target ps m)).sum := ((byWeight_perm ps).map _).sum_eq
    have hhead : ((byWeight ps).map (fun p => p.cap - target ps m p)).sum = (ps.map (fun p => p.cap - target ps m p)).sum :=
      ((byWeight_perm ps).map _).sum_eq
    have hcaps : (ps.map (target ps m)).sum + (ps.map (fun p => p.cap - target ps m p)).sum = capSum ps :=
      sum_map_add_sum_map_sub ps _ _ fun p hp => (saturated_eq_nil.mp hnone p hp).le
    have hle := sum_target_le ps m
    simp only [fillAtTargets, handOut_sum, hgoals, hhead]
    omega
  short := by
    simp only [fillAtTargets]
    omega

/-- The saturated members at their caps, and a fill of the rest with what remains, make a fill of the whole open set. -/
theorem Fill.Carries.saturated_append {ps : List Participant} {m : Nat} {f : Fill}
    (hf : f.Carries (unsaturated ps m) (m - capSum (saturated ps m))) :
    Fill.Carries ⟨(saturated ps m).map (fun p => (p.number, p.cap)) ++ f.shares, f.shortfall⟩ ps m where
  numbers := by
    have hparts := (saturated_append_unsaturated_perm ps m).map (·.number)
    rw [List.map_append] at hparts
    refine List.Perm.trans ?_ hparts
    rw [List.map_append, List.map_map]
    exact hf.numbers.append_left _
  capped s hs := by
    rcases List.mem_append.mp hs with hs | hs
    · obtain ⟨p, hp, rfl⟩ := List.mem_map.mp hs
      exact ⟨p, (mem_saturated.mp hp).1, rfl, le_rfl⟩
    · obtain ⟨p, hp, hbound⟩ := hf.capped s hs
      exact ⟨p, (mem_unsaturated.mp hp).1, hbound⟩
  total := by
    have hsplit := capSum_saturated_add ps m
    have hle := capSum_saturated_le ps m
    have hcaps : ((saturated ps m).map (·.cap)).sum = capSum (saturated ps m) := rfl
    simp only [List.map_append, List.map_map, Function.comp_def, List.sum_append, hf.total, hcaps]
    omega
  short := by
    have hsplit := capSum_saturated_add ps m
    simp only [hf.short]
    omega

theorem waterFill_carries {passes : Nat} (ps : List Participant) (m : Nat) (hpasses : ps.length ≤ passes) :
    (waterFill passes ps m).Carries ps m := by
  induction passes generalizing ps m with
  | zero =>
    obtain rfl : ps = [] := List.length_eq_zero_iff.mp (Nat.le_zero.mp hpasses)
    exact fillAtCaps_carries (Nat.zero_le m)
  | succ k ih =>
    rcases Nat.lt_or_ge m (capSum ps) with hm | hm
    · by_cases hfull : saturated ps m = []
      · rw [waterFill_of_unsaturated hm hfull]
        exact fillAtTargets_carries hm hfull
      · have hlen := length_unsaturated_lt hfull
        rw [waterFill_of_saturated hm hfull]
        exact (ih _ _ (by omega)).saturated_append
    · rw [waterFill_of_capSum_le hm]
      exact fillAtCaps_carries hm

section
variable {f : Fill} {ps : List Participant} {m : Nat}

theorem Fill.Carries.shareOf_of_mem (hf : f.Carries ps m) (hps : (ps.map (·.number)).Nodup) {n : StationNumber} {x : Nat}
    (h : (n, x) ∈ f.shares) : shareOf f.shares n = x :=
  Sys2Proof.Machine.shareOf_of_mem (hf.numbers.nodup_iff.mpr hps) h

/-- Each member has its share in the fill. -/
theorem Fill.Carries.mem_shares (hf : f.Carries ps m) (hps : (ps.map (·.number)).Nodup) {p : Participant} (hp : p ∈ ps) :
    (p.number, shareOf f.shares p.number) ∈ f.shares := by
  obtain ⟨⟨n, x⟩, hs, hn⟩ := List.mem_map.mp (hf.numbers.mem_iff.mpr (List.mem_map_of_mem hp))
  obtain rfl : n = p.number := hn
  rwa [hf.shareOf_of_mem hps hs]

theorem Fill.Carries.shareOf_le_cap (hf : f.Carries ps m) (hps : (ps.map (·.number)).Nodup) {p : Participant}
    (hp : p ∈ ps) : shareOf f.shares p.number ≤ p.cap := by
  obtain ⟨q, hq, hnum, hcap⟩ := hf.capped _ (hf.mem_shares hps hp)
  rwa [List.inj_on_of_nodup_map hps hq hp hnum] at hcap

theorem Fill.Carries.sum_shareOf (hf : f.Carries ps m) (hps : (ps.map (·.number)).Nodup) :
    (ps.map (fun p => shareOf f.shares p.number)).sum = min m (capSum ps) := by
  rw [← hf.total, ← Sys2Proof.Machine.sum_shareOf hf.numbers hps, List.map_map]
  rfl

end

/-! ## A pass of the water-fill, share by share -/

section
variable {ps : List Participant} {m : Nat}

theorem shareOf_waterFill_at_caps (hps : (ps.map (·.number)).Nodup) (h : capSum ps ≤ m) {p : Participant} (hp : p ∈ ps) :
    shareOf (waterFill ps.length ps m).shares p.number = p.cap := by
  refine (waterFill_carries ps m le_rfl).shareOf_of_mem hps ?_
  rw [waterFill_of_capSum_le h]
  exact List.mem_map_of_mem (f := fun p : Participant => (p.number, p.cap)) hp

/-- The pass in which members saturate, with the passes of the rest counted by its own members. -/
theorem waterFill_length_of_saturated (hm : m < capSum ps) (hfull : saturated ps m ≠ []) :
    waterFill ps.length ps m =
      let next := waterFill (unsaturated ps m).length (unsaturated ps m) (m - capSum (saturated ps m))
      ⟨(saturated ps m).map (fun p => (p.number, p.cap)) ++ next.shares, next.shortfall⟩ := by
  have hlen := length_unsaturated_lt hfull
  obtain ⟨k, hk⟩ : ∃ k, ps.length = k + 1 := ⟨ps.length - 1, by omega⟩
  rw [hk, waterFill_of_saturated hm hfull, waterFill_passes (unsaturated ps m) _ (j := k) (by omega) le_rfl]

theorem shareOf_waterFill_saturated (hps : (ps.map (·.number)).Nodup) (hm : m < capSum ps) {p : Participant}
    (hp : p ∈ saturated ps m) : shareOf (waterFill ps.length ps m).shares p.number = p.cap := by
  refine (waterFill_carries ps m le_rfl).shareOf_of_mem hps ?_
  rw [waterFill_length_of_saturated hm (List.ne_nil_of_mem hp)]
  exact List.mem_append_left _ (List.mem_map_of_mem (f := fun p : Participant => (p.number, p.cap)) hp)

theorem shareOf_waterFill_rest (hps : (ps.map (·.number)).Nodup) (hm : m < capSum ps) (hfull : saturated ps m ≠ [])
    {p : Participant} (hp : p ∈ unsaturated ps m) :
    shareOf (waterFill ps.length ps m).shares p.number =
      shareOf (waterFill (unsaturated ps m).length (unsaturated ps m) (m - capSum (saturated ps m))).shares p.number := by
  have hrest : ((unsaturated ps m).map (·.number)).Nodup := hps.sublist (List.filter_sublist.map _)
  refine (waterFill_carries ps m le_rfl).shareOf_of_mem hps ?_
  rw [waterFill_length_of_saturated hm hfull]
  exact List.mem_append_right _ ((waterFill_carries _ _ le_rfl).mem_shares hrest hp)

theorem waterFill_length_of_unsaturated (hm : m < capSum ps) (hnone : saturated ps m = []) :
    waterFill ps.length ps m = fillAtTargets ps m := by
  obtain ⟨k, hk⟩ : ∃ k, ps.length = k + 1 := ⟨ps.length - 1, by have := length_pos_of_lt_capSum hm; omega⟩
  rw [hk, waterFill_of_unsaturated hm hnone]

theorem shareOf_waterFill_at_targets (hps : (ps.map (·.number)).Nodup) (hm : m < capSum ps) (hnone : saturated ps m = [])
    {p : Participant} (hp : p ∈ ps) :
    shareOf (waterFill ps.length ps m).shares p.number =
      target ps m p + min (m - (ps.map (target ps m)).sum -
        ((ps.filter (servedBefore p)).map (fun q => q.cap - target ps m q)).sum) (p.cap - target ps m p) := by
  have hbefore : (((byWeight ps).filter (servedBefore p)).map (fun q => q.cap - target ps m q)).sum =
      ((ps.filter (servedBefore p)).map (fun q => q.cap - target ps m q)).sum :=
    (((byWeight_perm ps).filter _).map _).sum_eq
  refine (waterFill_carries ps m le_rfl).shareOf_of_mem hps ?_
  rw [waterFill_length_of_unsaturated hm hnone, fillAtTargets, handOut_eq_map _ _ (byWeight_pairwise_servedBefore hps),
    List.mem_map]
  exact ⟨p, (byWeight_perm ps).mem_iff.mpr hp, by rw [hbefore]⟩

end

/-- Settles O43, from the three ends of a pass: no capacity to spare, members that saturate, targets and the residual. -/
theorem waterFillPass : Obligations.WaterFillPass := by
  unfold Obligations.WaterFillPass
  intro ps m hps
  have hnd := nodup_numbers hps
  refine ⟨fun h => ⟨?_, fun p hp => shareOf_waterFill_at_caps hnd h hp⟩,
    fun hm hfull => ⟨unsaturated_ne_nil hm, capSum_saturated_le ps m, ?_,
      fun p hp => shareOf_waterFill_saturated hnd hm hp, fun p hp => shareOf_waterFill_rest hnd hm hfull hp⟩,
    fun hm hnone => ⟨?_, ?_, ?_, fun p hp => shareOf_waterFill_at_targets hnd hm hnone hp⟩⟩
  · exact (waterFill_carries ps m le_rfl).short
  · rw [waterFill_length_of_saturated hm hfull]
    rfl
  · exact congrArg Fill.shortfall (waterFill_length_of_unsaturated hm hnone)
  · have hlt := lt_sum_target_add_length (List.length_pos_iff.mp (length_pos_of_lt_capSum hm)) m
    have hle := sum_target_le ps m
    change m - (ps.map (target ps m)).sum < ps.length
    omega
  · exact ((waterFill_carries ps m le_rfl).sum_shareOf hnd).trans (min_eq_left hm.le)

end Sys2Proof.Machine
end

section
/-! PROOFS. The division of an effective demand over its participants (R15 to R18, R22). -/

namespace Sys2Proof.Machine

/-! ## The entries of a division (R22) -/

@[simp] theorem withSignOf_natAbs (d : Int) (n : Nat) : (withSignOf d n).natAbs = n := by
  unfold withSignOf
  split <;> omega

theorem withSignOf_neg_iff (d : Int) (n : Nat) (h : withSignOf d n ≠ 0) : withSignOf d n < 0 ↔ d < 0 := by
  unfold withSignOf at *
  split <;> omega

theorem contribution_le_cap (d : Int) (p : Participant) : contribution d p ≤ p.cap := by
  unfold contribution
  split <;> omega

/-- The entry a division with a sense forms for a participant. -/
def shareEntry (d : Int) (f : Fill) (p : Participant) : ShareEntry :=
  if p.discordant then ⟨p.number, withSignOf d (contribution d p), true⟩
  else ⟨p.number, withSignOf d (shareOf f.shares p.number), false⟩

theorem shareEntry_discordant {d : Int} {f : Fill} {p : Participant} (h : p.discordant = true) :
    shareEntry d f p = ⟨p.number, withSignOf d (contribution d p), true⟩ := if_pos h

theorem shareEntry_open {d : Int} {f : Fill} {p : Participant} (h : p.discordant = false) :
    shareEntry d f p = ⟨p.number, withSignOf d (shareOf f.shares p.number), false⟩ := by simp [shareEntry, h]

@[simp] theorem shareEntry_number (d : Int) (f : Fill) (p : Participant) : (shareEntry d f p).number = p.number := by
  cases h : p.discordant
  · rw [shareEntry_open h]
  · rw [shareEntry_discordant h]

@[simp] theorem shareEntry_isFixed (d : Int) (f : Fill) (p : Participant) : (shareEntry d f p).isFixed = p.discordant := by
  cases h : p.discordant
  · rw [shareEntry_open h]
  · rw [shareEntry_discordant h]

theorem shareEntry_sign (d : Int) (f : Fill) (p : Participant) (h : (shareEntry d f p).share ≠ 0) :
    (shareEntry d f p).share < 0 ↔ d < 0 := by
  cases hp : p.discordant
  · rw [shareEntry_open hp] at h ⊢
    exact withSignOf_neg_iff _ _ h
  · rw [shareEntry_discordant hp] at h ⊢
    exact withSignOf_neg_iff _ _ h

theorem divide_empty {d : Int} {sense : Sense} {ps : List Participant} (h : sense = .none ∨ ps = []) :
    divide d sense ps = ⟨ps.map (fun p => ⟨p.number, 0, false⟩), 0⟩ := if_pos h

theorem divide_entries {d : Int} {sense : Sense} {ps : List Participant} (hs : sense ≠ .none) (hps : ps ≠ []) :
    divide d sense ps = ⟨ps.map (shareEntry d (openFill d ps)), (openFill d ps).shortfall⟩ :=
  if_neg (not_or.mpr ⟨hs, hps⟩)

/-- A division has one entry for each participant, in order (R22). -/
theorem divide_numbers (d : Int) (sense : Sense) (ps : List Participant) :
    (divide d sense ps).entries.map (·.number) = ps.map (·.number) := by
  by_cases h : sense = .none ∨ ps = []
  · rw [divide_empty h, List.map_map]
    rfl
  · obtain ⟨hs, hps⟩ := not_or.mp h
    simp [divide_entries hs hps]

/-! ## The open set of a division (R18, R19) -/

/-- The participants that are not discordant. -/
def openSet (ps : List Participant) : List Participant := ps.filter (fun p => !p.discordant)

theorem mem_openSet {ps : List Participant} {p : Participant} : p ∈ openSet ps ↔ p ∈ ps ∧ p.discordant = false := by
  simp [openSet]

theorem openFill_of_fixed {d : Int} {ps : List Participant} (h : d.natAbs ≤ fixedSum d ps) : openFill d ps = ⟨[], 0⟩ :=
  if_pos h

theorem openFill_of_remainder {d : Int} {ps : List Participant} (h : ¬d.natAbs ≤ fixedSum d ps) :
    openFill d ps = waterFill (openSet ps).length (openSet ps) (d.natAbs - fixedSum d ps) := if_neg h

section
variable {ps : List Participant}

/-- The fill of a division gives every open participant at most its cap, nothing where the fixed contributions reach the
demand. -/
theorem shareOf_openFill_le_cap (d : Int) (hnd : ((openSet ps).map (·.number)).Nodup) {p : Participant}
    (hp : p ∈ openSet ps) : shareOf (openFill d ps).shares p.number ≤ p.cap := by
  by_cases h : d.natAbs ≤ fixedSum d ps
  · rw [openFill_of_fixed h]
    exact Nat.zero_le _
  · rw [openFill_of_remainder h]
    exact (waterFill_carries _ _ le_rfl).shareOf_le_cap hnd hp

theorem sum_shareOf_openFill (d : Int) (hnd : ((openSet ps).map (·.number)).Nodup) :
    ((openSet ps).map (fun p => shareOf (openFill d ps).shares p.number)).sum =
      min (d.natAbs - fixedSum d ps) (capSum (openSet ps)) := by
  by_cases h : d.natAbs ≤ fixedSum d ps
  · simp [openFill_of_fixed h, shareOf, Nat.sub_eq_zero_of_le h]
  · rw [openFill_of_remainder h]
    exact (waterFill_carries _ _ le_rfl).sum_shareOf hnd

theorem openFill_shortfall (d : Int) : (openFill d ps).shortfall = d.natAbs - fixedSum d ps - capSum (openSet ps) := by
  by_cases h : d.natAbs ≤ fixedSum d ps
  · simp [openFill_of_fixed h, Nat.sub_eq_zero_of_le h]
  · rw [openFill_of_remainder h]
    exact (waterFill_carries _ _ le_rfl).short

theorem shareEntry_le_cap (d : Int) (hnd : ((openSet ps).map (·.number)).Nodup) {p : Participant} (hp : p ∈ ps) :
    (shareEntry d (openFill d ps) p).share.natAbs ≤ p.cap := by
  cases hdis : p.discordant
  · rw [shareEntry_open hdis, withSignOf_natAbs]
    exact shareOf_openFill_le_cap d hnd (mem_openSet.mpr ⟨hp, hdis⟩)
  · rw [shareEntry_discordant hdis, withSignOf_natAbs]
    exact contribution_le_cap d p

/-- The entries that are not fixed are those of the open set, with the magnitudes of its fill. -/
theorem unfixed_magnitudes (d : Int) (f : Fill) (ps : List Participant) :
    ((ps.map (shareEntry d f)).filter (fun e => !e.isFixed)).map (·.share.natAbs) =
      (openSet ps).map (fun p => shareOf f.shares p.number) := by
  have hopen : (ps.map (shareEntry d f)).filter (fun e => !e.isFixed) = (openSet ps).map (shareEntry d f) := by
    simp [List.filter_map, Function.comp_def, openSet]
  rw [hopen, List.map_map]
  refine List.map_congr_left fun p hp => ?_
  rw [Function.comp_apply, shareEntry_open (mem_openSet.mp hp).2, withSignOf_natAbs]

end

/-- Settles O42, from what the fill of the open set carries. -/
theorem divisionCarriesDemand : Obligations.DivisionCarriesDemand := by
  unfold Obligations.DivisionCarriesDemand
  intro d sense ps hps
  have hnd : ((openSet ps).map (·.number)).Nodup := (nodup_numbers hps).sublist (List.filter_sublist.map _)
  refine ⟨divide_numbers d sense ps, fun hempty => ?_, fun hsense hne => ?_⟩
  · rw [divide_empty hempty]
    simp
  · rw [divide_entries hsense hne]
    refine ⟨fun p hp => ⟨_, List.mem_map_of_mem hp, shareEntry_number .., shareEntry_isFixed ..,
      shareEntry_le_cap d hnd hp, shareEntry_sign d _ p, fun hdis => ?_⟩, ?_, openFill_shortfall d⟩
    · rw [shareEntry_discordant hdis]
      exact withSignOf_natAbs ..
    · rw [unfixed_magnitudes]
      exact sum_shareOf_openFill d hnd

/-! ## The peers of a snapshot (R4) -/

theorem mem_peerNumbers (own n : StationNumber) : n ∈ peerNumbers own ↔ n ≠ 0 ∧ n ≠ own := by
  have hseven : n ∈ ([1, 2, 3, 4, 5, 6, 7] : List StationNumber) ↔ n ≠ 0 := by revert n; decide
  simp [peerNumbers, List.mem_filter, hseven, -List.mem_cons]

theorem peerNumbers_pairwise (own : StationNumber) : (peerNumbers own).Pairwise (· < ·) :=
  List.Pairwise.filter _ (by decide)

theorem PeerEntry.takesPart_iff (e : PeerEntry) : e.takesPart = true ↔ e.state = .live ∧ e.health = some .sharing := by
  simp [PeerEntry.takesPart]

theorem PeerTable.copies_pairwise (t : PeerTable) (own : StationNumber) :
    (t.copies own).Pairwise (fun a b => a.number < b.number) :=
  List.pairwise_map.mpr ((peerNumbers_pairwise own).filter _)

theorem PeerTable.mem_copies (t : PeerTable) (own : StationNumber) (c : PeerCopy) :
    c ∈ t.copies own ↔
      c.number ≠ 0 ∧ c.number ≠ own ∧ (t.entry c.number).takesPart = true ∧ c = (t.entry c.number).copy c.number := by
  simp only [PeerTable.copies, List.mem_map, List.mem_filter, mem_peerNumbers]
  constructor
  · rintro ⟨n, ⟨⟨h0, hown⟩, hpart⟩, rfl⟩
    exact ⟨h0, hown, hpart, rfl⟩
  · rintro ⟨h0, hown, hpart, hc⟩
    exact ⟨c.number, ⟨⟨h0, hown⟩, hpart⟩, hc.symm⟩

theorem PeerEntry.eq_copy_iff (e : PeerEntry) (c : PeerCopy) :
    c = e.copy c.number ↔ c.propCap = e.propCap ∧ c.retCap = e.retCap ∧ c.weight = e.weight ∧ c.reported = e.reported ∧
      c.discordant = e.discordant := by
  cases c
  simp [PeerEntry.copy]

/-! ## The participants of a division (R15, R16) -/

theorem mem_insertByNumber (x p : Participant) (ps : List Participant) : p ∈ insertByNumber x ps ↔ p = x ∨ p ∈ ps := by
  induction ps with
  | nil => simp [insertByNumber]
  | cons q qs ih =>
    unfold insertByNumber
    split
    · simp
    · simp only [List.mem_cons, ih]
      tauto

theorem insertByNumber_pairwise (x : Participant) {ps : List Participant}
    (hps : ps.Pairwise (fun a b => a.number < b.number)) (hx : ∀ p ∈ ps, p.number ≠ x.number) :
    (insertByNumber x ps).Pairwise (fun a b => a.number < b.number) := by
  induction ps with
  | nil => simp [insertByNumber]
  | cons q qs ih =>
    obtain ⟨hq, hqs⟩ := List.pairwise_cons.mp hps
    obtain ⟨hqx, hx⟩ := List.forall_mem_cons.mp hx
    unfold insertByNumber
    split
    next hlt => exact .cons (List.forall_mem_cons.mpr ⟨hlt, fun p hp => hlt.trans (hq p hp)⟩) hps
    next hge =>
      refine .cons (fun p hp => ?_) (ih hqs hx)
      rcases (mem_insertByNumber x p qs).mp hp with rfl | hp
      · exact lt_of_le_of_ne (not_lt.mp hge) hqx
      · exact hq p hp

theorem participants_sharing {sn : Snapshot} (h : sn.mode = .sharing) (sense : Sense) (self : Participant) :
    participants sn sense self = insertByNumber self (sn.peers.map (PeerCopy.participant sense)) := if_pos h

theorem participants_not_sharing {sn : Snapshot} (h : sn.mode ≠ .sharing) (sense : Sense) (self : Participant) :
    participants sn sense self = sn.peers.map (PeerCopy.participant sense) := if_neg h

theorem mem_participants (sn : Snapshot) (sense : Sense) (self p : Participant) :
    p ∈ participants sn sense self ↔ (sn.mode = .sharing ∧ p = self) ∨ ∃ q ∈ sn.peers, p = q.participant sense := by
  have hpeers : p ∈ sn.peers.map (PeerCopy.participant sense) ↔ ∃ q ∈ sn.peers, p = q.participant sense := by
    simp [eq_comm]
  by_cases h : sn.mode = .sharing
  · simp only [participants_sharing h, mem_insertByNumber, hpeers, h, true_and]
  · simp only [participants_not_sharing h, hpeers, h, false_and, false_or]

theorem participants_pairwise (sn : Snapshot) (sense : Sense) (self : Participant)
    (hpeers : sn.peers.Pairwise (fun a b => a.number < b.number)) (hself : ∀ p ∈ sn.peers, p.number ≠ self.number) :
    (participants sn sense self).Pairwise (fun a b => a.number < b.number) := by
  have hmap : (sn.peers.map (PeerCopy.participant sense)).Pairwise (fun a b => a.number < b.number) :=
    List.pairwise_map.mpr hpeers
  by_cases h : sn.mode = .sharing
  · rw [participants_sharing h]
    exact insertByNumber_pairwise self hmap (List.forall_mem_map.mpr hself)
  · rwa [participants_not_sharing h]

/-- A station with an entry in a division reads its share there. -/
theorem exists_entryOf {entries : List ShareEntry} {n : StationNumber} (h : n ∈ entries.map (·.number)) :
    ∃ e ∈ entries, e.number = n ∧ entryOf entries n = some e := by
  obtain ⟨e, he, hn⟩ := List.mem_map.mp h
  obtain ⟨found, hfound⟩ : ∃ e, entryOf entries n = some e :=
    Option.isSome_iff_exists.mp (List.find?_isSome.mpr ⟨e, he, by simp [hn]⟩)
  exact ⟨found, List.mem_of_find?_eq_some hfound, by simpa using List.find?_some hfound, hfound⟩

/-- Self's cap in the words of the statement: its wheel cap for the sense, lowered by a slip cap of that sense. -/
theorem lesserCap_slipCapFor (cap : Nat) (slipCap : Option SlipCap) (sense : Sense) :
    lesserCap cap (slipCapFor slipCap sense) =
      match slipCap with
      | some k => if k.sense = sense then min cap k.magnitude else cap
      | none => cap := by
  cases slipCap with
  | none => rfl
  | some k =>
    simp only [slipCapFor]
    split <;> rfl

/-- Self's entry of the division in SHARING is the own share (R23). -/
theorem compute_ownShare_sharing (c : Setup) (own : StationNumber) (sn : Snapshot) (before : DemandInForce)
    (slipCap : Option SlipCap) (h : sn.mode = .sharing) :
    let r := compute c own sn before slipCap
    ∃ e ∈ r.vector.entries, e.number = own ∧ r.ownShare = e.share := by
  intro r
  have hself : own ∈ r.vector.entries.map (·.number) := by
    simp only [r, compute, divide_numbers, List.mem_map, mem_participants]
    exact ⟨_, .inl ⟨h, rfl⟩, rfl⟩
  obtain ⟨e, he, hn, hfind⟩ := exists_entryOf hself
  have hshare : r.ownShare = ((entryOf r.vector.entries own).map (·.share)).getD 0 := if_pos h
  exact ⟨e, he, hn, by rw [hshare, hfind]; rfl⟩

/-- Settles O41, from the copies of a snapshot and the participants of a division. -/
theorem participantsInOrder : Obligations.Participants := by
  unfold Obligations.Participants
  refine ⟨fun t own => ⟨t.copies_pairwise own, fun c => ?_⟩, fun c own sn before slipCap hpeers hown => ?_⟩
  · rw [t.mem_copies, PeerEntry.takesPart_iff, PeerEntry.eq_copy_iff, and_assoc]
  · intro r capOf self ps
    have hself : self = selfParticipant own r.ownCaps r.inForce.sense slipCap r.ownWeight := by
      simp only [self, selfParticipant, lesserCap_slipCapFor]
      rfl
    have hvector : r.vector.entries = (divide r.inForce.dEff r.inForce.sense ps).entries ∧
        r.vector.shortfall = (divide r.inForce.dEff r.inForce.sense ps).shortfall := by
      simp only [ps, hself]
      exact ⟨rfl, rfl⟩
    exact ⟨participants_pairwise sn r.inForce.sense self hpeers hown, mem_participants sn r.inForce.sense self,
      hvector.1, hvector.2, rfl, rfl, rfl, fun h => if_neg h, compute_ownShare_sharing c own sn before slipCap⟩

end Sys2Proof.Machine
end

section
/-! PROOFS. COMPUTATION_COMPLETION: what it stores and hands on (R3, R4, R7 to R13, R23, R25, R28, R29). -/

namespace Sys2Proof.Machine

/-! ## The completion of a computation in flight (R23) -/

theorem exec_computationCompletion {s : State} {sn : Snapshot} (hbusy : s.spe.state = .busy)
    (hsnap : s.spe.snapshot = some sn) : exec .computationCompletion s = .next (s.complete sn) := by
  change execComputationCompletion s = _
  simp only [execComputationCompletion, hbusy, hsnap]

theorem State.chain_idle {s : State} (h : s.lpt.holding = none) : s.chain = s := by
  simp only [State.chain, h]

theorem State.chain_waiting {s : State} {m : Measure} (h : s.lpt.holding = some m) :
    s.chain = { s with lpt := { s.lpt with holding := none } : State }.startComputation m := by
  simp only [State.chain, h]

/-! ## The figures a completion stores -/

@[simp] theorem State.chain_inForce (s : State) : s.chain.spe.inForce = s.spe.inForce := by
  unfold State.chain; split <;> rfl

@[simp] theorem State.chain_ownWeight (s : State) : s.chain.spe.ownWeight = s.spe.ownWeight := by
  unfold State.chain; split <;> rfl

@[simp] theorem State.chain_ownCaps (s : State) : s.chain.spe.ownCaps = s.spe.ownCaps := by
  unfold State.chain; split <;> rfl

theorem State.complete_inForce (s : State) (sn : Snapshot) :
    (s.complete sn).spe.inForce = effectiveDemand sn s.spe.inForce s.config.rampLimit := by
  simp [State.complete, SplitEngine.store, State.result, compute]

theorem State.complete_ownWeight (s : State) (sn : Snapshot) :
    (s.complete sn).spe.ownWeight =
      ownWeightOf s.config.loadTransfer sn.accel (s.complete sn).spe.inForce.direction sn.measure.load sn.grip := by
  simp [State.complete, SplitEngine.store, State.result, compute]

theorem State.complete_ownCaps (s : State) (sn : Snapshot) :
    (s.complete sn).spe.ownCaps = wheelCaps s.config.gearRatio sn.measure := by
  simp [State.complete, SplitEngine.store, State.result, compute]

@[simp] theorem CommandStage.complete_caps (c : CommandStage) (cfg : Setup) (h : HandOff) :
    (c.complete cfg h).caps = h.caps := by
  unfold CommandStage.complete
  split <;> rfl

@[simp] theorem CommandStage.complete_sag (c : CommandStage) (cfg : Setup) (h : HandOff) :
    (c.complete cfg h).sag = sagAfter c.sag cfg.sagThreshold h.voltage := by
  unfold CommandStage.complete
  split <;> rfl

theorem State.complete_cms_caps (s : State) (sn : Snapshot) : (s.complete sn).cms.caps = (s.complete sn).spe.ownCaps := by
  simp [State.complete, SplitEngine.store, State.handOff]

/-! ## The change of the sag state (R28, R29) -/

section
variable {s : State} {before : SagState} {v : Nat}

theorem State.reportSag_entered (hb : before = .clear) (ha : s.cms.sag = .inSag) :
    s.reportSag before v = { s with lpt := { s.lpt with sagSeen := true } : State }.notify .sagEntered none (some v) := by
  simp only [State.reportSag, hb, ha, sagNotice]

theorem State.reportSag_left (hb : before = .inSag) (ha : s.cms.sag = .clear) :
    s.reportSag before v = s.notify .sagLeft none (some v) := by
  simp only [State.reportSag, hb, ha, sagNotice]

theorem State.reportSag_same (h : s.cms.sag = before) : s.reportSag before v = s := by
  cases before <;> simp only [State.reportSag, h, sagNotice]

/-- The report of a sag state that has just followed a voltage: entered below the threshold, left from its hysteresis on. -/
theorem State.reportSag_after {threshold : Nat} (hsag : s.cms.sag = sagAfter before threshold v) :
    s.reportSag before v =
      if before = .clear ∧ v < threshold then
        { s with lpt := { s.lpt with sagSeen := true } : State }.notify .sagEntered none (some v)
      else if before = .inSag ∧ threshold + 10 ≤ v then s.notify .sagLeft none (some v)
      else s := by
  cases before with
  | clear =>
    by_cases hv : v < threshold
    · rw [if_pos ⟨rfl, hv⟩]
      exact reportSag_entered rfl (hsag.trans (if_pos hv))
    · rw [if_neg (fun h => hv h.2), if_neg (fun h => by cases h.1)]
      exact reportSag_same (hsag.trans (if_neg hv))
  | inSag =>
    rw [if_neg (fun h => by cases h.1)]
    by_cases hv : threshold + 10 ≤ v
    · rw [if_pos ⟨rfl, hv⟩]
      exact reportSag_left rfl (hsag.trans (if_pos hv))
    · rw [if_neg (fun h => hv h.2)]
      exact reportSag_same (hsag.trans (if_neg hv))

end

@[simp] theorem State.reportSag_holding (s : State) (before : SagState) (v : Nat) :
    (s.reportSag before v).lpt.holding = s.lpt.holding := by
  unfold State.reportSag
  split <;> simp

/-- The state between the Command Stage's completion and the start of the next computation: results stored, the Command Stage
moved. -/
def State.stored (s : State) (sn : Snapshot) : State :=
  { s with
    spe := s.spe.store (s.result sn)
    cms := s.cms.complete s.config (s.handOff sn) }

theorem State.complete_eq (s : State) (sn : Snapshot) :
    s.complete sn = ((s.stored sn).reportSag s.cms.sag sn.measure.voltage).chain := rfl

theorem State.stored_sag (s : State) (sn : Snapshot) :
    (s.stored sn).cms.sag = sagAfter s.cms.sag s.config.sagThreshold sn.measure.voltage :=
  CommandStage.complete_sag ..

/-- Settles O36: the completion stores, reports the sag state and takes the waiting MEASURE. -/
theorem completionStoresAndChains : Obligations.CompletionStoresAndChains := by
  unfold Obligations.CompletionStoresAndChains
  intro sn s hbusy hsnap r stored noticed
  have hnoticed : (s.stored sn).reportSag s.cms.sag sn.measure.voltage = noticed := State.reportSag_after (s.stored_sag sn)
  have hholding : noticed.lpt.holding = s.lpt.holding := by
    rw [← hnoticed, State.reportSag_holding]
    rfl
  rw [exec_computationCompletion hbusy hsnap, State.complete_eq, hnoticed]
  refine ⟨fun hnone => ?_, fun m hm => ?_⟩
  · rw [State.chain_idle (hholding.trans hnone)]
  · have hsnapshot : State.takeSnapshot { noticed with lpt := { noticed.lpt with holding := none } } m =
        s.takeSnapshot m := by
      simp only [State.takeSnapshot, ← hnoticed, State.reportSag_ptb, State.reportSag_ssv, State.reportSag_slm]
      rfl
    rw [State.chain_waiting (hholding.trans hm), State.startComputation, hsnapshot]
    rfl

/-! ## The demand in force (R8 to R11) -/

theorem effectiveDemand_fresh {sn : Snapshot} (h : sn.demandState = .fresh) (before : DemandInForce) (rampLimit : Nat) :
    effectiveDemand sn before rampLimit =
      ⟨sn.demand, senseOf sn.demand sn.direction, sn.direction, sn.gripMode, sn.lastSeq⟩ := by
  simp only [effectiveDemand, h]

theorem effectiveDemand_stale {sn : Snapshot} (h : sn.demandState = .stale) (before : DemandInForce) (rampLimit : Nat) :
    effectiveDemand sn before rampLimit =
      let d := decayToward0 before.dEff (rampStep rampLimit sn.gripMode)
      ⟨d, senseOf d sn.direction, sn.direction, sn.gripMode, sn.lastSeq⟩ := by
  simp only [effectiveDemand, h]

theorem effectiveDemand_none {sn : Snapshot} (h : sn.demandState = .none) (before : DemandInForce) (rampLimit : Nat) :
    effectiveDemand sn before rampLimit = ⟨0, .none, .forward, .normal, none⟩ := by
  simp only [effectiveDemand, h]

/-- The sense in force is that of D_eff and the direction, whatever the state of the record (R11). -/
theorem effectiveDemand_sense (sn : Snapshot) (before : DemandInForce) (rampLimit : Nat) :
    (effectiveDemand sn before rampLimit).sense =
      senseOf (effectiveDemand sn before rampLimit).dEff (effectiveDemand sn before rampLimit).direction := by
  cases h : sn.demandState with
  | fresh => rw [effectiveDemand_fresh h]
  | stale => rw [effectiveDemand_stale h]
  | none => rw [effectiveDemand_none h]; rfl

theorem senseOf_zero (dir : Direction) : senseOf 0 dir = .none := rfl

theorem senseOf_propulsive_iff {d : Int} (hd : d ≠ 0) (dir : Direction) :
    senseOf d dir = .propulsive ↔ (0 < d ↔ dir = .forward) := by
  cases dir <;> by_cases hpos : 0 < d <;> simp [senseOf, hd, hpos]

theorem senseOf_ne_none {d : Int} (hd : d ≠ 0) (dir : Direction) : senseOf d dir ≠ .none := by
  cases dir <;> by_cases hpos : 0 < d <;> simp [senseOf, hd, hpos]

theorem decayToward0_natAbs (d : Int) (step : Nat) : (decayToward0 d step).natAbs = d.natAbs - step := by
  unfold decayToward0
  split
  · omega
  · split <;> omega

theorem decayToward0_neg_iff {d : Int} {step : Nat} (h : decayToward0 d step ≠ 0) : decayToward0 d step < 0 ↔ d < 0 := by
  unfold decayToward0 at *
  split at h
  · exact absurd rfl h
  · rw [if_neg ‹_›]
    split <;> omega

theorem clampInt_natAbs_le (hi : Nat) (x : Int) : (clampInt (-hi) hi x).natAbs ≤ hi := by
  unfold clampInt
  omega

theorem screenDemand_range {h : FrameHeader} {p : DemandPayload} {c : DemandContent} (hc : screenDemand h p = some c) :
    c.demand.natAbs ≤ 16000 := by
  unfold screenDemand at hc
  split at hc
  · cases hc
  · split at hc
    · cases hc
      exact clampInt_natAbs_le 16000 _
    · cases hc

/-- Settles O37: the screening clamps the demand, and a FRESH record's demand is taken as it stands. -/
theorem freshDemandInForce : Obligations.FreshDemandInForce := by
  unfold Obligations.FreshDemandInForce
  refine ⟨fun h p c => screenDemand_range, fun sn s hbusy hsnap hfresh =>
    ⟨_, exec_computationCompletion hbusy hsnap, ?_⟩⟩
  rw [State.complete_inForce, effectiveDemand_fresh hfresh]
  exact ⟨rfl, rfl, rfl, rfl⟩

/-- Settles O38, by the states of the demand record. -/
theorem staleAndAbsentDemandInForce : Obligations.StaleAndAbsentDemandInForce := by
  unfold Obligations.StaleAndAbsentDemandInForce
  refine fun sn s hbusy hsnap => ⟨_, exec_computationCompletion hbusy hsnap, ?_⟩
  rw [State.complete_inForce]
  have hsense := effectiveDemand_sense sn s.spe.inForce s.config.rampLimit
  refine ⟨fun h0 => ?_, fun hne => ?_, fun hne => ?_, fun hnone => effectiveDemand_none hnone .., fun hstale => ?_⟩
  · rw [hsense, h0, senseOf_zero]
  · rw [hsense, senseOf_propulsive_iff hne]
  · rw [hsense]
    exact senseOf_ne_none hne _
  · intro decay
    have hdecay : decay = rampStep s.config.rampLimit sn.gripMode := by
      simp only [decay]
      cases sn.gripMode <;> rfl
    rw [effectiveDemand_stale hstale, hdecay]
    exact ⟨rfl, rfl, rfl, decayToward0_natAbs .., decayToward0_neg_iff⟩

/-! ## The own wheel caps (R12) -/

/-- Settles O39: the stored caps are the formula's, and the Command Stage has them. -/
theorem ownWheelCaps : Obligations.OwnWheelCaps := by
  unfold Obligations.OwnWheelCaps
  refine fun sn s hbusy hsnap => ⟨_, exec_computationCompletion hbusy hsnap, ?_⟩
  have hcaps := s.complete_ownCaps sn
  refine ⟨by rw [hcaps]; rfl, by rw [hcaps]; rfl, s.complete_cms_caps sn, fun h0 => ?_, fun h0 => ?_⟩
  · simp [hcaps, wheelCaps, wheelCap, h0]
  · simp [hcaps, wheelCaps, wheelCap, h0]

/-! ## The own weight (R13) -/

/-- The effective axle load of R13: the static load and the load transfer of the direction, clamped to 0..1000. -/
def effectiveLoad (coefficient accel : Int) (dir : Direction) (load : Nat) : Int :=
  clampInt 0 1000 ((load : Int) + loadShift coefficient accel dir)

theorem effectiveLoad_range (coefficient accel : Int) (dir : Direction) (load : Nat) :
    0 ≤ effectiveLoad coefficient accel dir load ∧ effectiveLoad coefficient accel dir load ≤ 1000 := by
  unfold effectiveLoad clampInt
  omega

theorem effectiveLoad_eq (coefficient accel : Int) (dir : Direction) (load : Nat) :
    effectiveLoad coefficient accel dir load =
      let shift := (coefficient * accel).tdiv 1000
      max 0 (min ((load : Int) + (if dir = .reverse then -shift else shift)) 1000) := by
  cases dir <;> rfl

theorem ownWeightOf_eq (coefficient accel : Int) (dir : Direction) (load grip : Nat) :
    (ownWeightOf coefficient accel dir load grip : Int) = effectiveLoad coefficient accel dir load * grip / 16 := by
  have hnonneg := (effectiveLoad_range coefficient accel dir load).1
  change (((effectiveLoad coefficient accel dir load).toNat * grip / 16 : Nat) : Int) = _
  rw [Int.natCast_div, Int.natCast_mul, Int.toNat_of_nonneg hnonneg]
  rfl

theorem ownWeightOf_le (coefficient accel : Int) (dir : Direction) (load : Nat) {grip : Nat} (hgrip : grip ≤ 16) :
    ownWeightOf coefficient accel dir load grip ≤ 1000 := by
  have hload : (effectiveLoad coefficient accel dir load).toNat ≤ 1000 := by
    have := (effectiveLoad_range coefficient accel dir load).2
    omega
  calc (effectiveLoad coefficient accel dir load).toNat * grip / 16
    _ ≤ 1000 * 16 / 16 := Nat.div_le_div_right (Nat.mul_le_mul hload hgrip)
    _ = 1000 := rfl

/-- The load transfer within its legal coefficient and acceleration (R13). -/
theorem loadTransfer_bound {k a : Int} (hk : k.natAbs ≤ 100) (ha : a.natAbs ≤ 20000) :
    ((k * a).tdiv 1000).natAbs ≤ 2000 := by
  rw [Int.natAbs_tdiv, Int.natAbs_mul]
  calc k.natAbs * a.natAbs / 1000
    _ ≤ 100 * 20000 / 1000 := Nat.div_le_div_right (Nat.mul_le_mul hk ha)
    _ = 2000 := rfl

/-- Settles O40, from the effective load and its range. -/
theorem ownWeight : Obligations.OwnWeight := by
  unfold Obligations.OwnWeight
  refine ⟨fun sn s hbusy hsnap => ⟨_, exec_computationCompletion hbusy hsnap, ?_⟩, fun k a => loadTransfer_bound⟩
  intro shift load
  have hload : load = effectiveLoad s.config.loadTransfer sn.accel (s.complete sn).spe.inForce.direction sn.measure.load :=
    (effectiveLoad_eq ..).symm
  have hweight : ((s.complete sn).spe.ownWeight : Int) = load * sn.grip / 16 := by
    rw [s.complete_ownWeight, ownWeightOf_eq, hload]
  refine ⟨hweight, fun hgrip => ?_, fun hfull => ?_, fun hleast => ?_⟩
  · rw [s.complete_ownWeight]
    exact ownWeightOf_le _ _ _ _ hgrip.2
  · rw [hweight, hfull]
    omega
  · rw [hweight, hleast]
    omega

end Sys2Proof.Machine
end

section
/-! PROOFS. The Command Stage: what a completion makes of the held command, the effective cap, and the conversion to motor
torque (R12, R25, R27, R28, R30 to R37, R42). -/

namespace Sys2Proof.Machine

/-! ## The effective cap (R30) -/

theorem le_lesserCap_iff (n cap : Nat) (further : Option Nat) :
    n ≤ lesserCap cap further ↔ n ≤ cap ∧ ∀ k, further = some k → n ≤ k := by
  cases further <;> simp [lesserCap]

theorem slipCapFor_eq_some_iff (slipCap : Option SlipCap) (sense : Sense) (n : Nat) :
    slipCapFor slipCap sense = some n ↔ ∃ k, slipCap = some k ∧ k.sense = sense ∧ k.magnitude = n := by
  cases slipCap <;> simp [slipCapFor]

theorem sagCapFor_eq_some_iff (sag : SagState) (sense : Sense) (sagCap n : Nat) :
    sagCapFor sag sense sagCap = some n ↔ (sag = .inSag ∧ sense = .propulsive) ∧ sagCap = n := by
  simp [sagCapFor]

theorem le_ofSense_iff (caps : Caps) {sense : Sense} (h : sense ≠ .none) (n : Nat) :
    n ≤ caps.ofSense sense ↔ (sense = .propulsive → n ≤ caps.prop) ∧ (sense = .retarding → n ≤ caps.ret) := by
  cases sense with
  | none => exact absurd rfl h
  | propulsive => simp [Caps.ofSense]
  | retarding => simp [Caps.ofSense]

theorem CommandStage.effectiveCap_no_sense {c : CommandStage} (h : c.sense = .none) (slipCap : Option SlipCap)
    (sagCap : Nat) : c.effectiveCap slipCap sagCap = 0 := if_pos h

/-- The effective cap is the least of the caps that apply to the sense in force (R30). -/
theorem CommandStage.le_effectiveCap_iff {c : CommandStage} (h : c.sense ≠ .none) (slipCap : Option SlipCap)
    (sagCap n : Nat) :
    n ≤ c.effectiveCap slipCap sagCap ↔
      n ≤ c.caps.ofSense c.sense ∧ (∀ k, slipCap = some k → k.sense = c.sense → n ≤ k.magnitude) ∧
        (c.sag = .inSag → c.sense = .propulsive → n ≤ sagCap) := by
  rw [effectiveCap, if_neg h]
  simp only [le_lesserCap_iff, slipCapFor_eq_some_iff, sagCapFor_eq_some_iff, and_assoc]
  refine and_congr_right fun _ => and_congr ⟨fun hk k hs hsense => hk _ ⟨k, hs, hsense, rfl⟩, ?_⟩
    ⟨fun hk hsag hsense => hk _ ⟨hsag, hsense, rfl⟩, ?_⟩
  · rintro hk n ⟨k, hs, hsense, rfl⟩
    exact hk k hs hsense
  · rintro hk n ⟨hsag, hsense, rfl⟩
    exact hk hsag hsense

/-! ## Ramp and clamp (R33, R34, R36) -/

theorem rampToward_reached {held target : Int} {step : Nat} (h : (target - held).natAbs ≤ step) :
    rampToward held target step = target := if_pos h

theorem rampToward_short {held target : Int} {step : Nat} (h : step < (target - held).natAbs) :
    rampToward held target step = if held < target then held + step else held - step := if_neg (Nat.not_le.mpr h)

@[simp] theorem clampMagnitude_natAbs (x : Int) (cap : Nat) : (clampMagnitude x cap).natAbs = min x.natAbs cap :=
  withSignOf_natAbs ..

theorem clampMagnitude_neg_iff {x : Int} {cap : Nat} (h : clampMagnitude x cap ≠ 0) : clampMagnitude x cap < 0 ↔ x < 0 :=
  withSignOf_neg_iff _ _ h

theorem isRateLimited_iff (ramped target : Int) (cap : Nat) :
    isRateLimited ramped target cap = true ↔ ramped ≠ target ∧ ramped.natAbs < cap := by
  simp [isRateLimited]

/-! ## A completion at the Command Stage (R25 to R37, R42) -/

namespace CommandStage

variable (c : CommandStage) (cfg : Setup) (h : HandOff)

@[simp] theorem complete_sense : (c.complete cfg h).sense = h.sense := by
  unfold complete
  split <;> rfl

@[simp] theorem complete_gripMode : (c.complete cfg h).gripMode = h.gripMode := by
  unfold complete
  split <;> rfl

theorem complete_resultSeq : (c.complete cfg h).resultSeq = c.resultSeq + 1 := by
  unfold complete
  split <;> rfl

theorem complete_motor : (c.complete cfg h).motor = motorOf cfg.gearRatio (c.complete cfg h).held := by
  unfold complete
  split <;> rfl

/-- The clamp of a completion is by the effective cap it leaves in force. -/
theorem complete_effectiveCap (slipCap : Option SlipCap) (sagCap : Nat) :
    (c.complete cfg h).effectiveCap slipCap sagCap = (c.takeCaps cfg h).effectiveCap slipCap sagCap := by
  unfold complete
  split <;> rfl

variable {h}

theorem complete_zero (hz : h.mode ≠ .sharing ∨ h.sense = .none) :
    (c.complete cfg h).held = 0 ∧ (c.complete cfg h).rateLimited = false := by
  simp only [complete, if_pos hz, and_self]

theorem complete_held (hm : h.mode = .sharing) (hs : h.sense ≠ .none) :
    (c.complete cfg h).held =
      clampMagnitude (rampedHeld c.held cfg h) ((c.complete cfg h).effectiveCap h.slipCap cfg.sagCap) := by
  rw [complete_effectiveCap]
  simp only [complete, hm, hs, ne_eq, not_true_eq_false, or_self, if_false]
  rfl

theorem complete_rateLimited (hm : h.mode = .sharing) (hs : h.sense ≠ .none) :
    (c.complete cfg h).rateLimited =
      isRateLimited (rampedHeld c.held cfg h) h.share ((c.complete cfg h).effectiveCap h.slipCap cfg.sagCap) := by
  rw [complete_effectiveCap]
  simp only [complete, hm, hs, ne_eq, not_true_eq_false, or_self, if_false]
  rfl

end CommandStage

theorem sagAfter_clear (threshold voltage : Nat) : sagAfter .clear threshold voltage = .inSag ↔ voltage < threshold := by
  simp [sagAfter]

theorem sagAfter_inSag (threshold voltage : Nat) :
    sagAfter .inSag threshold voltage = .clear ↔ threshold + 10 ≤ voltage := by
  change (if threshold + 10 ≤ voltage then SagState.clear else .inSag) = .clear ↔ _
  simp

/-- Settles O44, from what a completion makes of each item and the least of the caps that apply. -/
theorem commandStageCompletes : Obligations.CommandStageCompletes := by
  unfold Obligations.CommandStageCompletes
  refine ⟨fun c cfg h => ?_, fun c slipCap sagCap => ⟨fun hs => c.effectiveCap_no_sense hs .., fun hs n => ?_⟩⟩
  · intro t cap step start
    have hstep : step = rampStep cfg.rampLimit h.gripMode := by
      simp only [step]
      cases h.gripMode <;> rfl
    refine ⟨c.complete_caps cfg h, c.complete_sense cfg h, c.complete_gripMode cfg h, c.complete_resultSeq cfg h,
      c.complete_motor cfg h, fun hsag => ?_, fun hsag => ?_, c.complete_zero cfg, fun hm hs => ?_⟩
    · rw [c.complete_sag, hsag, sagAfter_clear]
    · rw [c.complete_sag, hsag, sagAfter_inSag]
    · have hheld : t.held = clampMagnitude (rampToward start h.share step) cap := by
        rw [hstep]
        exact c.complete_held cfg hm hs
      have hlimited : t.rateLimited = isRateLimited (rampToward start h.share step) h.share cap := by
        rw [hstep]
        exact c.complete_rateLimited cfg hm hs
      refine ⟨rampToward start h.share step, rampToward_reached, rampToward_short, ?_, ?_, ?_⟩
      · rw [hheld, clampMagnitude_natAbs]
      · rw [hheld]
        exact clampMagnitude_neg_iff
      · rw [hlimited, isRateLimited_iff]
  · rw [c.le_effectiveCap_iff hs, le_ofSense_iff _ hs, and_assoc]

/-! ## The motor command (R37) -/

/-- A held command's magnitude converted to motor-shaft torque, rounded to the nearest, its half up, before the clamp (R37). -/
def motorMagnitude (g : Nat) (held : Int) : Nat := (held.natAbs * 1280 + g) / (2 * g)

@[simp] theorem motorOf_natAbs (g : Nat) (held : Int) : (motorOf g held).natAbs = min 10000 (motorMagnitude g held) :=
  withSignOf_natAbs ..

theorem motorOf_neg_iff {g : Nat} {held : Int} (h : motorOf g held ≠ 0) : motorOf g held < 0 ↔ held < 0 :=
  withSignOf_neg_iff _ _ h

theorem motorOf_zero (g : Nat) : motorOf g 0 = 0 := by
  have hzero : motorMagnitude g 0 = 0 := by
    rcases Nat.eq_zero_or_pos g with rfl | hg
    · rfl
    · exact Nat.div_eq_of_lt (by simp only [Int.natAbs_zero]; omega)
  rw [← Int.natAbs_eq_zero, motorOf_natAbs, hzero, Nat.min_zero]

theorem motorMagnitude_lower (g : Nat) (held : Int) : 2 * (motorMagnitude g held * g) ≤ 2 * (held.natAbs * 640) + g := by
  have h : motorMagnitude g held * (2 * g) ≤ held.natAbs * 1280 + g := Nat.div_mul_le_self ..
  linarith

section
variable {g : Nat} (hg : 0 < g) (held : Int)
include hg

theorem motorMagnitude_upper : 2 * (held.natAbs * 640) < 2 * (motorMagnitude g held * g) + g := by
  have h : held.natAbs * 1280 + g < 2 * g * (motorMagnitude g held + 1) := Nat.lt_mul_div_succ _ (by omega)
  linarith

theorem motorMagnitude_le {torque : Nat} (h : held.natAbs * 640 ≤ torque * g) : motorMagnitude g held ≤ torque := by
  refine Nat.le_of_lt_succ ((Nat.div_lt_iff_lt_mul (by omega)).mpr ?_)
  linarith

theorem le_motorMagnitude {torque : Nat} (h : torque * g ≤ held.natAbs * 640) : torque ≤ motorMagnitude g held := by
  refine (Nat.le_div_iff_mul_le (by omega)).mpr ?_
  linarith

end

theorem le_wheelCap_iff (g torque n : Nat) : n ≤ wheelCap g torque ↔ n ≤ 8000 ∧ n * 640 ≤ torque * g := by
  rw [wheelCap, Nat.le_min, Nat.le_div_iff_mul_le (by decide)]
  rfl

/-- Settles O45, from the rounded quotient between its bounds. -/
theorem motorCommand : Obligations.MotorCommand := by
  unfold Obligations.MotorCommand
  refine fun g held hg => ⟨motorOf_zero g, ?_, motorOf_neg_iff, fun hle => ?_, fun hge => ?_, fun torque hcap => ?_⟩
  · rw [motorOf_natAbs]
    exact Nat.min_le_left ..
  · rw [motorOf_natAbs, Nat.min_eq_right (motorMagnitude_le hg held hle)]
    exact ⟨motorMagnitude_lower g held, motorMagnitude_upper hg held⟩
  · rw [motorOf_natAbs, Nat.min_eq_left (le_motorMagnitude hg held hge)]
  · rw [motorOf_natAbs]
    exact (Nat.min_le_right ..).trans (motorMagnitude_le hg held ((le_wheelCap_iff g torque _).mp hcap).2)

end Sys2Proof.Machine
end

section
/-! PROOFS. What the torque rests on, part by part: the items of the state that each invariant reads. A state that agrees with a
safe one on those items is safe. -/

namespace Sys2Proof.Machine

/-! ## Congruence of each part -/

section
variable {s t : State}

theorem State.ConfigSafe.congr (hs : s.ConfigSafe) (hmode : s.ssv.mode = .unconfigured → t.ssv.mode = .unconfigured)
    (hconfig : t.config = s.config) (hown : t.ssv.ownNumber = s.ssv.ownNumber) : t.ConfigSafe := by
  intro ht
  rw [hconfig, hown]
  exact hs fun h => ht (hmode h)

theorem State.TableSafe.congr (hs : s.TableSafe) (hmode : t.ssv.mode = .unconfigured → s.ssv.mode = .unconfigured)
    (hconfig : t.config = s.config) (hown : t.ssv.ownNumber = s.ssv.ownNumber) (hptb : t.ptb = s.ptb) : t.TableSafe where
  demand := by rw [hptb, hconfig]; exact hs.demand
  peers := by rw [hptb, hconfig]; exact hs.peers
  self := by rw [hptb, hown]; exact hs.self
  unheard h := by rw [hptb]; exact hs.unheard (hmode h)

theorem State.MonitorSafe.congr (hs : s.MonitorSafe) (hmode : t.ssv.mode = s.ssv.mode) (hconfig : t.config = s.config)
    (hslm : t.slm = s.slm) : t.MonitorSafe := by
  constructor <;> rw [hslm]
  case runs => rw [hmode]; exact hs.runs
  case sampleTimer => rw [hconfig]; exact hs.sampleTimer
  case settleTimer => rw [hconfig]; exact hs.settleTimer
  case gripTimer => rw [hconfig]; exact hs.gripTimer
  case capTimer => rw [hconfig]; exact hs.capTimer
  case slipCap => rw [hconfig]; exact hs.slipCap
  case count => rw [hconfig]; exact hs.count
  exacts [hs.off, hs.grip, hs.watching, hs.recovering, hs.idle, hs.confirming, hs.baseline, hs.accel, hs.prevRef,
    hs.slipEvents]

theorem State.EngineSafe.congr (hs : s.EngineSafe) (hmode : t.ssv.mode = .unconfigured → s.ssv.mode = .unconfigured)
    (hspe : t.spe = s.spe) (hholding : t.lpt.holding = s.lpt.holding) : t.EngineSafe := by
  constructor
  case holding => rw [hholding]; exact hs.holding
  all_goals rw [hspe]
  case unconfigured => exact fun h => hs.unconfigured (hmode h)
  case idle => rw [hholding]; exact hs.idle
  exacts [hs.busy, hs.snapshot, hs.inForce, hs.caps, hs.weight, hs.vector]

/-- The Command Stage reads the slip cap through the effective cap only, which may rise. -/
theorem State.CommandSafe.congr (hs : s.CommandSafe) (hmode : t.ssv.mode = s.ssv.mode) (hconfig : t.config = s.config)
    (hinForce : t.spe.inForce = s.spe.inForce) (hcaps : t.spe.ownCaps = s.spe.ownCaps) (hcms : t.cms = s.cms)
    (hcap : s.cms.effectiveCap s.slm.slipCap s.config.sagCap ≤ s.cms.effectiveCap t.slm.slipCap s.config.sagCap) :
    t.CommandSafe := by
  constructor <;> rw [hcms]
  case caps => rw [hcaps]; exact hs.caps
  case sense => rw [hinForce]; exact hs.sense
  case gripMode => rw [hinForce]; exact hs.gripMode
  case sharing => rw [hmode]; exact hs.sharing
  case sign => rw [hinForce]; exact hs.sign
  case cap => rw [hconfig]; exact hs.cap.trans hcap
  case motor => rw [hconfig]; exact hs.motor

/-- Two states agree on every item that the torque rests on. -/
structure State.SameTorque (s t : State) : Prop where
  mode : t.ssv.mode = s.ssv.mode
  config : t.config = s.config
  ownNumber : t.ssv.ownNumber = s.ssv.ownNumber
  ptb : t.ptb = s.ptb
  slm : t.slm = s.slm
  spe : t.spe = s.spe
  cms : t.cms = s.cms
  holding : t.lpt.holding = s.lpt.holding

theorem State.TorqueSafe.congr (hs : s.TorqueSafe) (h : s.SameTorque t) : t.TorqueSafe where
  config := hs.config.congr (fun hu => h.mode.trans hu) h.config h.ownNumber
  table := hs.table.congr (fun hu => h.mode.symm.trans hu) h.config h.ownNumber h.ptb
  monitor := hs.monitor.congr h.mode h.config h.slm
  engine := hs.engine.congr (fun hu => h.mode.symm.trans hu) h.spe h.holding
  command := hs.command.congr h.mode h.config (by rw [h.spe]) (by rw [h.spe]) h.cms (by rw [h.slm])

end

/-! ## Blocks and operations the torque does not rest on -/

section
variable {s : State} (hs : s.TorqueSafe)
include hs

theorem State.TorqueSafe.withPending (queue : List Instr) : { s with pending := queue : State }.TorqueSafe :=
  hs.congr ⟨rfl, rfl, rfl, rfl, rfl, rfl, rfl, rfl⟩

theorem State.TorqueSafe.withLink (c : LinkController) : { s with slc := c : State }.TorqueSafe :=
  hs.congr ⟨rfl, rfl, rfl, rfl, rfl, rfl, rfl, rfl⟩

theorem State.TorqueSafe.withScheduler (f : Scheduler) : { s with fsc := f : State }.TorqueSafe :=
  hs.congr ⟨rfl, rfl, rfl, rfl, rfl, rfl, rfl, rfl⟩

theorem State.TorqueSafe.withWheels (time : TimeStamp) (w : WheelUnit) :
    { s with timebase := time, wcu := w : State }.TorqueSafe :=
  hs.congr ⟨rfl, rfl, rfl, rfl, rfl, rfl, rfl, rfl⟩

/-- Of the Local Port only the holding slot matters (R164). -/
theorem State.TorqueSafe.withPort {l : LocalPort} (h : l.holding = s.lpt.holding) : { s with lpt := l : State }.TorqueSafe :=
  hs.congr ⟨rfl, rfl, rfl, rfl, rfl, rfl, rfl, h⟩

/-- Of the Station Supervisor only the mode and the own number matter. -/
theorem State.TorqueSafe.withSupervisor {v : Supervisor} (hmode : v.mode = s.ssv.mode)
    (hown : v.ownNumber = s.ssv.ownNumber) : { s with ssv := v : State }.TorqueSafe :=
  hs.congr ⟨hmode, rfl, hown, rfl, rfl, rfl, rfl, rfl⟩

theorem State.TorqueSafe.notify (k : NoticeKind) (st : Option StationNumber) (v : Option Nat) :
    (s.notify k st v).TorqueSafe := hs.withPort (s.notify_holding k st v)

theorem State.TorqueSafe.notifyTable (n : StationNumber) (o : Option TableNotice) : (s.notifyTable n o).TorqueSafe := by
  obtain heq | ⟨k, v, heq⟩ := s.notifyTable_cases n o
  · rw [heq]
    exact hs
  · rw [heq]
    exact hs.notify ..

theorem State.TorqueSafe.move : s.move.TorqueSafe := by
  obtain heq | ⟨f, rest, -, -, -, heq⟩ := s.move_cases
  · rw [heq]
    exact hs
  · rw [heq]
    exact (hs.withScheduler rest).withLink _

theorem State.TorqueSafe.place (r : Reply) : (s.place r).TorqueSafe := hs.withPort rfl

theorem State.TorqueSafe.refuse (k : RecordKind) (r : Reason) (i : Option Nat) : (s.refuse k r i).TorqueSafe := hs.place _

theorem State.TorqueSafe.endExchange : s.endExchange.TorqueSafe := hs.withPort rfl

theorem State.TorqueSafe.endReception : s.endReception.TorqueSafe := hs.withLink _

theorem State.TorqueSafe.countMisplaced : s.countMisplaced.TorqueSafe := hs.withLink _

theorem State.TorqueSafe.noteClamp (r : MeasureRecord) : (s.noteClamp r).TorqueSafe := by
  unfold State.noteClamp
  split
  · refine State.TorqueSafe.notify ?_ ..
    exact hs.withPort rfl
  · exact hs

end

/-! ## A station at rest -/

section
variable {s t : State}

theorem DemandRecord.cleared_legal (timeout : Nat) : DemandRecord.cleared.Legal timeout :=
  ⟨by decide, by decide, fun _ => rfl, rfl⟩

theorem PeerEntry.cleared_legal (timeout : Nat) : PeerEntry.cleared.Legal timeout where
  gaps := by decide
  caps := by decide
  weight := by decide
  axleSpeed := by decide
  reported := by decide
  grip := by decide
  alert n hn := by cases hn
  timer := .inl rfl
  live hst := by cases hst
  joining hst := by cases hst
  others _ _ := rfl
  discord _ := ⟨rfl, rfl⟩
  mark := by decide
  absent _ := rfl

theorem State.TableSafe.of_cleared (hdemand : t.ptb.demand = .cleared) (hpeers : ∀ n, t.ptb.entry n = .cleared) :
    t.TableSafe where
  demand := by
    rw [hdemand]
    exact DemandRecord.cleared_legal _
  peers n := by
    rw [hpeers]
    exact PeerEntry.cleared_legal _
  self := ⟨hpeers 0, hpeers _⟩
  unheard _ := ⟨hdemand, hpeers⟩

/-- The monitor OFF holds nothing but the sense of its last sample and its event counter (R118, R120). -/
def Monitor.IsOff (m : Monitor) : Prop := { m with lastSense := .none, slipEvents := 0 } = Monitor.afterReset

theorem Monitor.IsOff.eq {m : Monitor} (h : m.IsOff) :
    m = { Monitor.afterReset with lastSense := m.lastSense, slipEvents := m.slipEvents } := by
  have hm : ({ m with lastSense := .none, slipEvents := 0 } : Monitor) = Monitor.afterReset := h
  rw [← hm]

theorem Monitor.goOff_isOff (m : Monitor) : m.goOff.IsOff := rfl

theorem State.MonitorSafe.of_off (hoff : t.slm.IsOff) (hmode : t.ssv.mode ≠ .sharing) (hevents : t.slm.slipEvents ≤ 255) :
    t.MonitorSafe := by
  constructor <;> rw [hoff.eq]
  case runs => exact ⟨fun _ => hmode, fun _ => rfl⟩
  case slipEvents => exact hevents
  all_goals simp [Monitor.afterReset]

theorem State.MonitorSafe.isOff (hs : s.MonitorSafe) (hmode : s.ssv.mode ≠ .sharing) : s.slm.IsOff :=
  hs.off (hs.runs.mpr hmode)

/-- A held command of 0 is safe in every mode. -/
theorem State.CommandSafe.of_zero (hcaps : t.cms.caps = t.spe.ownCaps) (hsense : t.cms.sense = t.spe.inForce.sense)
    (hgrip : t.cms.gripMode = t.spe.inForce.gripMode) (hheld : t.cms.held = 0) (hmotor : t.cms.motor = 0)
    (hlimited : t.cms.rateLimited = false) : t.CommandSafe where
  caps := hcaps
  sense := hsense
  gripMode := hgrip
  sharing _ := ⟨hheld, hlimited⟩
  sign h := absurd hheld h
  cap := by
    rw [hheld]
    exact Nat.zero_le _
  motor := by rw [hheld, hmotor, motorOf_zero]

theorem State.CommandSafe.zero (hs : s.CommandSafe) (hmode : s.ssv.mode ≠ .sharing) :
    s.cms.held = 0 ∧ s.cms.motor = 0 ∧ s.cms.rateLimited = false := by
  obtain ⟨hheld, hlimited⟩ := hs.sharing hmode
  exact ⟨hheld, by rw [hs.motor, hheld, motorOf_zero], hlimited⟩

end

end Sys2Proof.Machine
end

section
/-! PROOFS. The peer table stays legal under every frame and every expiry (R43 to R67). -/

namespace Sys2Proof.Machine

/-! ## What the link brings is in range (R52, R59) -/

theorem countUp_le (n : Nat) : countUp n ≤ 255 := Nat.min_le_left ..

theorem clampTop_le (hi n : Nat) : clampTop hi n ≤ hi := Nat.min_le_right ..

/-- The figures of a STATUS within their ranges (R52). -/
structure StatusContent.Legal (c : StatusContent) : Prop where
  caps : c.propCap ≤ 8000 ∧ c.retCap ≤ 8000
  weight : c.weight ≤ 1000
  axleSpeed : c.axleSpeed ≤ 65535
  reported : c.reported.natAbs ≤ 8000
  grip : 4 ≤ c.grip ∧ c.grip ≤ 16

theorem readStatus_legal {p : StatusPayload} {c : StatusContent} (h : readStatus p = some c) : c.Legal := by
  unfold readStatus at h
  split at h
  · cases h
  · cases h
    exact ⟨⟨clampTop_le .., clampTop_le ..⟩, clampTop_le .., Nat.le_of_lt_succ p.axleSpeed.isLt,
      clampInt_natAbs_le 8000 _, by simp only [clampNat]; omega⟩

/-- The figures of a SLIP ALERT within their ranges (R59). -/
structure SlipAlert.Legal (a : SlipAlert) : Prop where
  newCap : a.newCap ≤ 8000
  newWeight : a.newWeight ≤ 1000
  slip : a.slip ≤ 1000

theorem readSlipAlert_legal {p : SlipAlertPayload} {a : SlipAlert} (h : readSlipAlert p = some a) : a.Legal := by
  unfold readSlipAlert at h
  split at h
  · cases h
  · cases h
    exact ⟨clampTop_le .., clampTop_le .., clampTop_le ..⟩

/-! ## A peer entry -/

section
variable {e : PeerEntry} {timeout : Nat} {seq : Seq}

/-- What of a legal entry does not depend on its state. -/
structure PeerEntry.InRange (e : PeerEntry) (timeout : Nat) : Prop where
  gaps : e.gaps ≤ 255
  caps : e.propCap ≤ 8000 ∧ e.retCap ≤ 8000
  weight : e.weight ≤ 1000
  axleSpeed : e.axleSpeed ≤ 65535
  reported : e.reported.natAbs ≤ 8000
  grip : 4 ≤ e.grip ∧ e.grip ≤ 16
  alert : ∀ n, e.lastAlertSlip = some n → n ≤ 1000
  timer : e.silenceTimer = .stopped ∨ e.silenceTimer = .running timeout

theorem PeerEntry.Legal.inRange (h : e.Legal timeout) : e.InRange timeout := { h with }

/-- A move out of LIVE, or between the other states, leaves a legal entry (R56). -/
theorem PeerEntry.InRange.moveTo (h : e.InRange timeout) {st : PeerState} {n : Nat} (habsent : st ≠ .absent)
    (hlive : st ≠ .live)
    (hjoining : st = .joining → 1 ≤ n ∧ n ≤ 2 ∧ e.silenceTimer = .running timeout ∧ e.lastSeq.isSome)
    (hothers : st ≠ .joining → n = 0) : (e.moveTo st n).Legal timeout :=
  { h with
    live := fun hst => absurd hst hlive
    joining := hjoining
    others := fun _ => hothers
    discord := fun _ => ⟨rfl, rfl⟩
    mark := by simp [PeerEntry.moveTo]
    absent := fun hst => absurd hst habsent }

theorem PeerEntry.InRange.withdraw (h : e.InRange timeout) : (e.moveTo .withdrawn 0).Legal timeout :=
  h.moveTo (by decide) (by decide) (fun hst => by cases hst) (fun _ => rfl)

theorem PeerEntry.InRange.rejoin (h : e.InRange timeout) (htimer : e.silenceTimer = .running timeout)
    (hseq : e.lastSeq.isSome) : (e.moveTo .joining 1).Legal timeout :=
  h.moveTo (by decide) (by decide) (fun _ => ⟨by decide, by decide, htimer, hseq⟩) (fun hst => absurd rfl hst)

theorem PeerEntry.InRange.startJoin (h : e.InRange timeout) (htimer : e.silenceTimer = .running timeout)
    (hseq : e.lastSeq.isSome) : e.startJoin.Legal timeout :=
  have hforgotten : { e with lastFaultCause := none, lastAlertSlip := none : PeerEntry }.InRange timeout :=
    { h with alert := fun n hn => by cases hn }
  hforgotten.rejoin htimer hseq

theorem PeerEntry.Legal.hear (h : e.Legal timeout) (seq : Seq) : (e.hear seq timeout).Legal timeout :=
  { h with
    gaps := by
      simp only [PeerEntry.hear]
      split
      · exact countUp_le _
      · exact h.gaps
    timer := .inr rfl
    live := fun hst => ⟨(h.live hst).1, rfl, (h.live hst).2.2⟩
    joining := fun hst => ⟨(h.joining hst).1, (h.joining hst).2.1, rfl, rfl⟩
    absent := h.absent }

theorem PeerEntry.InRange.store (h : e.InRange timeout) {c : StatusContent} (hc : c.Legal) : (e.store c).InRange timeout :=
  { h with
    caps := hc.caps
    weight := hc.weight
    axleSpeed := hc.axleSpeed
    reported := hc.reported
    grip := hc.grip }

/-- A counted STATUS of an entry in JOINING, heard and stored (R54). -/
theorem PeerEntry.countJoin_legal (h : e.InRange timeout) (hstate : e.state = .joining)
    (hcount : 1 ≤ e.joinCount ∧ e.joinCount ≤ 2) (htimer : e.silenceTimer = .running timeout) (hseq : e.lastSeq.isSome)
    (hclear : e.discordCount = 0 ∧ e.discordant = false) (hhealth : e.health = some .sharing ∨ e.health = some .joining)
    (r : SeqResult) : (e.countJoin r).Legal timeout := by
  have hmark : e.discordCount ≤ 4 ∧ (e.discordant = true ↔ e.discordCount = 4) := by simp [hclear.1, hclear.2]
  have hcounting : ∀ n, 1 ≤ n → n ≤ 2 → { e with joinCount := n : PeerEntry }.Legal timeout := fun n h1 h2 =>
    { h with
      live := fun hst => by simp [hstate] at hst
      joining := fun _ => ⟨h1, h2, htimer, hseq⟩
      others := fun _ hst => absurd hstate hst
      discord := fun _ => hclear
      mark := hmark
      absent := fun hst => by simp [hstate] at hst }
  unfold PeerEntry.countJoin
  split
  · split
    · exact
        { h with
          live := fun _ => ⟨rfl, htimer, hhealth⟩
          joining := fun hst => by cases hst
          others := fun hst => absurd rfl hst
          discord := fun _ => hclear
          mark := hmark
          absent := fun hst => by cases hst }
    · rename_i hshort
      simp only [Config.joinFrames] at hshort
      exact hcounting _ (by omega) (by omega)
  · exact hcounting 1 (by decide) (by decide)

theorem PeerEntry.onStatus_start {health : Health} (hhealth : health ≠ .withdrawn)
    (hst : e.state = .absent ∨ e.state = .silent ∨ e.state = .withdrawn) (r : SeqResult) :
    e.onStatus r health = e.startJoin := by
  cases health with
  | withdrawn => exact absurd rfl hhealth
  | joining | sharing => rcases hst with hst | hst | hst <;> simp only [onStatus, hst]

theorem PeerEntry.onStatus_count {health : Health} (hhealth : health ≠ .withdrawn) (hst : e.state = .joining)
    (r : SeqResult) : e.onStatus r health = e.countJoin r := by
  cases health with
  | withdrawn => exact absurd rfl hhealth
  | joining | sharing => simp only [onStatus, hst]

theorem PeerEntry.onStatus_live_joining (hst : e.state = .live) (r : SeqResult) :
    e.onStatus r .joining = e.moveTo .joining 1 := by
  simp only [onStatus, hst]

theorem PeerEntry.onStatus_live_sharing (hst : e.state = .live) (r : SeqResult) : e.onStatus r .sharing = e := by
  simp only [onStatus, hst]

/-- The transition of a STATUS from a legal entry that has just been heard (R53 to R57). -/
theorem PeerEntry.Legal.onStatus (h : e.Legal timeout) (htimer : e.silenceTimer = .running timeout)
    (hseq : e.lastSeq.isSome) {c : StatusContent} (hc : c.Legal) (r : SeqResult) :
    ((e.store c).onStatus r c.health).Legal timeout := by
  have hrange := h.inRange.store hc
  by_cases hwithdrawn : c.health = .withdrawn
  · rw [hwithdrawn]
    exact hrange.withdraw
  have hhealth : c.health = .sharing ∨ c.health = .joining := by
    cases hh : c.health with
    | withdrawn => exact absurd hh hwithdrawn
    | joining => exact .inr rfl
    | sharing => exact .inl rfl
  have hstart : e.state = .absent ∨ e.state = .silent ∨ e.state = .withdrawn →
      ((e.store c).onStatus r c.health).Legal timeout := fun hst => by
    rw [onStatus_start (e := e.store c) hwithdrawn hst]
    exact hrange.startJoin htimer hseq
  cases hst : e.state with
  | absent => exact hstart (.inl hst)
  | silent => exact hstart (.inr (.inl hst))
  | withdrawn => exact hstart (.inr (.inr hst))
  | joining =>
    obtain ⟨h1, h2, -, -⟩ := h.joining hst
    rw [onStatus_count (e := e.store c) hwithdrawn hst]
    exact countJoin_legal hrange hst ⟨h1, h2⟩ htimer hseq (h.discord (by simp [hst]))
      (hhealth.imp (congrArg some) (congrArg some)) r
  | live =>
    rcases hhealth with hsharing | hjoining
    · rw [hsharing, onStatus_live_sharing (e := e.store c) hst]
      exact
        { hrange, h with
          live := fun _ => ⟨(h.live hst).1, htimer, .inl (congrArg some hsharing)⟩
          absent := fun habsent => by simp [store, hst] at habsent }
    · rw [hjoining, onStatus_live_joining (e := e.store c) hst]
      exact hrange.rejoin htimer hseq

theorem PeerEntry.Legal.applyStatus (h : e.Legal timeout) (seq : Seq) {c : StatusContent} (hc : c.Legal) :
    (e.applyStatus seq c timeout).Legal timeout :=
  (h.hear seq).onStatus rfl rfl hc _

/-- A discord check is made of an entry LIVE and unmarked (R61, R62). -/
theorem PeerEntry.Legal.checkDiscord (h : e.Legal timeout) {difference : Option Nat} (band : Nat)
    (hmade : difference.isSome → e.state = .live ∧ e.discordant = false) :
    (e.checkDiscord difference band).Legal timeout := by
  cases difference with
  | none => exact h
  | some d =>
    obtain ⟨hlive, hunmarked⟩ := hmade rfl
    have hcount : e.discordCount ≤ 3 := by
      have hmark := h.mark
      simp only [hunmarked, Bool.false_eq_true, false_iff] at hmark
      omega
    have hjudged : ∀ n m, (n ≤ 4 ∧ (m = true ↔ n = 4)) →
        { e with discordCount := n, discordant := m : PeerEntry }.Legal timeout := fun n m hmark =>
      { h with
        discord := fun hst => absurd hlive hst
        mark := hmark
        absent := fun habsent => by simp [hlive] at habsent }
    change (e.judgeDiscord d band).Legal timeout
    unfold PeerEntry.judgeDiscord
    split
    · refine hjudged _ _ ⟨by omega, ?_⟩
      rw [decide_eq_true_eq]
      change 4 ≤ e.discordCount + 1 ↔ e.discordCount + 1 = 4
      omega
    · exact hjudged 0 e.discordant (by simp [hunmarked])

theorem discordDifference_isSome {before after : PeerEntry} {v : Option ShareVector} {n : StationNumber}
    {c : StatusContent} (h : (discordDifference before after v n c).isSome) :
    after.state = .live ∧ after.discordant = false := by
  unfold discordDifference at h
  split at h
  · rename_i hmade
    exact ⟨hmade.2.1, hmade.2.2.1⟩
  · cases h

theorem PeerEntry.Legal.applyFault (h : e.Legal timeout) (seq : Seq) (cause : FaultCause) :
    (e.applyFault seq cause timeout).Legal timeout :=
  have hheard : { e.hear seq timeout with lastFaultCause := some cause : PeerEntry }.InRange timeout :=
    { (h.hear seq).inRange with }
  hheard.withdraw

theorem PeerEntry.Legal.storeAlert (h : e.Legal timeout) (hstate : e.state ≠ .absent) {a : SlipAlert} (ha : a.Legal) :
    (e.storeAlert a).Legal timeout :=
  { h with
    caps := by
      refine ⟨?_, ?_⟩
      · simp only [PeerEntry.storeAlert]
        split
        · exact ha.newCap
        · exact h.caps.1
      · simp only [PeerEntry.storeAlert]
        split
        · exact ha.newCap
        · exact h.caps.2
    weight := ha.newWeight
    alert := fun n hn => Option.some.inj hn ▸ ha.slip
    absent := fun habsent => absurd habsent hstate }

theorem PeerEntry.Legal.applySlipAlert (h : e.Legal timeout) (seq : Seq) {a : SlipAlert} (ha : a.Legal) :
    (e.applySlipAlert seq a timeout).Legal timeout := by
  unfold PeerEntry.applySlipAlert
  split
  · exact h.hear seq
  · rename_i hstate
    exact (h.hear seq).storeAlert hstate ha

theorem PeerEntry.fallSilent_joined (hst : e.state = .joining ∨ e.state = .live) :
    e.fallSilent = { e with silenceTimer := .stopped : PeerEntry }.moveTo .silent 0 := by
  rcases hst with hst | hst <;> simp only [fallSilent, hst] <;> rfl

theorem PeerEntry.fallSilent_other (hjoining : e.state ≠ .joining) (hlive : e.state ≠ .live) :
    e.fallSilent = { e with silenceTimer := .stopped } := by
  unfold fallSilent
  split
  · exact absurd ‹_› hjoining
  · exact absurd ‹_› hlive
  all_goals rfl

theorem PeerEntry.Legal.fallSilent (h : e.Legal timeout) : e.fallSilent.Legal timeout := by
  by_cases hst : e.state = .joining ∨ e.state = .live
  · have hstopped : { e with silenceTimer := .stopped : PeerEntry }.InRange timeout := { h.inRange with timer := .inl rfl }
    rw [fallSilent_joined hst]
    exact hstopped.moveTo (by decide) (by decide) (fun hsilent => by cases hsilent) (fun _ => rfl)
  · obtain ⟨hjoining, hlive⟩ := not_or.mp hst
    rw [fallSilent_other hjoining hlive]
    exact
      { h with
        timer := .inl rfl
        live := fun hst => absurd hst hlive
        joining := fun hst => absurd hst hjoining
        absent := h.absent }

theorem PeerEntry.Legal.clearGaps (h : e.Legal timeout) : { e with gaps := 0 : PeerEntry }.Legal timeout :=
  { h with
    gaps := Nat.zero_le _
    absent := h.absent }

theorem PeerEntry.Legal.linkReset (h : e.Legal timeout) : e.linkReset.Legal timeout :=
  { PeerEntry.cleared_legal timeout with
    gaps := h.gaps
    absent := fun _ => rfl }

end

/-! ## The table -/

section
variable {s : State}

theorem State.TableSafe.withEntry (hs : s.TableSafe) {n : StationNumber} {e : PeerEntry} (hn : n ≠ 0)
    (hown : n ≠ s.ssv.ownNumber) (he : e.Legal s.config.silenceTimeout)
    (hunheard : s.ssv.mode = .unconfigured → e = .cleared) : (s.withEntry n e).TableSafe := by
  have hentry : ∀ m, (s.ptb.withEntry n e).entry m = if n = m then e else s.ptb.entry m := by
    intro m
    by_cases hm : n = m
    · rw [if_pos hm, ← hm, PeerTable.entry_withEntry_same]
    · rw [if_neg hm, PeerTable.entry_withEntry_other _ _ _ _ hm]
  refine ⟨hs.demand, fun m => ?_, ?_, fun hmode => ⟨(hs.unheard hmode).1, fun m => ?_⟩⟩
  · simp only [State.withEntry_ptb, hentry]
    split
    · exact he
    · exact hs.peers m
  · simp only [State.withEntry_ptb, hentry, if_neg hn, State.withEntry_ssv, if_neg hown]
    exact hs.self
  · simp only [State.withEntry_ptb, hentry]
    split
    · exact hunheard hmode
    · exact (hs.unheard hmode).2 m

theorem State.TableSafe.withDemand (hs : s.TableSafe) {d : DemandRecord} (hd : d.Legal s.config.demandTimeout)
    (hmode : s.ssv.mode ≠ .unconfigured) : { s with ptb := { s.ptb with demand := d } : State }.TableSafe :=
  ⟨hd, hs.peers, hs.self, fun h => absurd h hmode⟩

theorem PeerTable.entry_linkReset_cleared {t : PeerTable} {n : StationNumber} (h : t.entry n = .cleared) :
    t.linkReset.entry n = .cleared := by
  rw [PeerTable.linkReset_entry, h]
  rfl

theorem State.TableSafe.linkReset (hs : s.TableSafe) : { s with ptb := s.ptb.linkReset : State }.TableSafe where
  demand := DemandRecord.cleared_legal _
  peers n := by
    simp only [PeerTable.linkReset_entry]
    exact (hs.peers n).linkReset
  self := ⟨PeerTable.entry_linkReset_cleared hs.self.1, PeerTable.entry_linkReset_cleared hs.self.2⟩
  unheard hmode := ⟨rfl, fun n => PeerTable.entry_linkReset_cleared ((hs.unheard hmode).2 n)⟩

theorem DemandRecord.accept_legal {c : DemandContent} (hc : c.demand.natAbs ≤ 16000) (seq : Seq) (timeout : Nat) :
    (DemandRecord.accept c seq timeout).Legal timeout :=
  ⟨hc, by simp [accept], fun h => (by cases h), rfl⟩

theorem DemandRecord.Legal.fresh_of_running {d : DemandRecord} {timeout : Nat} (h : d.Legal timeout)
    (hrun : d.timer.isRunning = true) : d.state = .fresh := by
  by_contra hst
  rw [h.timer, if_neg hst] at hrun
  cases hrun

theorem DemandRecord.Legal.expire {d : DemandRecord} {timeout : Nat} (h : d.Legal timeout) (hfresh : d.state = .fresh) :
    d.expire.Legal timeout := by
  have hstale : d.expire.state = .stale := if_pos hfresh
  have hseq : d.expire.lastSeq ≠ none := fun hnone => by simp [h.sequence.mp hnone] at hfresh
  refine ⟨h.range, ?_, fun hst => ?_, ?_⟩
  · simp [hstale, hseq]
  · simp [hstale] at hst
  · rw [hstale]
    rfl

end

end Sys2Proof.Machine
end

section
/-! PROOFS. The Slip Monitor stays consistent under its samples, its timers, and the station's entry into SHARING
(R119 to R139). -/

namespace Sys2Proof.Machine

section
variable {s : State}

/-! ## Items that do not move the monitor's state -/

theorem State.MonitorSafe.withBaseline (h : s.MonitorSafe) (hon : s.slm.state ≠ .off) {b : Nat} (hb : b ≤ 1000) :
    { s with slm := { s.slm with baseline := b } : State }.MonitorSafe :=
  { h with
    off := fun hoff => absurd hoff hon
    baseline := hb }

theorem State.MonitorSafe.withFilter (h : s.MonitorSafe) (hon : s.slm.state ≠ .off) {prev : Option Nat} {accel : Int}
    (hprev : ∀ v, prev = some v → v ≤ 65535) (haccel : accel.natAbs ≤ 20000) :
    { s with slm := { s.slm with prevRef := prev, accel := accel } : State }.MonitorSafe :=
  { h with
    off := fun hoff => absurd hoff hon
    prevRef := hprev
    accel := haccel }

theorem State.MonitorSafe.clearEvents (h : s.MonitorSafe) :
    { s with slm := { s.slm with slipEvents := 0 } : State }.MonitorSafe :=
  { h with
    off := h.off
    slipEvents := Nat.zero_le _ }

/-- The sample timer of a running monitor already runs its interval (R119, R122). -/
theorem State.MonitorSafe.restartSample (h : s.MonitorSafe) (hon : s.slm.state ≠ .off) :
    { s.slm with sampleTimer := .running s.config.slipSampleInterval } = s.slm := by
  rw [← h.sampleTimer hon]

/-! ## Moves of the state with the settle timer and the confirm count -/

theorem State.MonitorSafe.sharing (h : s.MonitorSafe) (hon : s.slm.state ≠ .off) : s.ssv.mode = .sharing :=
  not_not.mp fun hmode => hon (h.runs.mpr hmode)

theorem State.MonitorSafe.runs_on (h : s.MonitorSafe) (hon : s.slm.state ≠ .off) {st : MonitorState} (hst : st ≠ .off) :
    st = .off ↔ s.ssv.mode ≠ .sharing :=
  iff_of_false hst (not_not.mpr (h.sharing hon))

/-- A running monitor moved to a state with a settle timer and a confirm count that agree with it. -/
theorem State.MonitorSafe.moveTo (h : s.MonitorSafe) (hon : s.slm.state ≠ .off) (st : MonitorState) (n : Nat)
    (hst : st ≠ .off) (hfull : st = .watching ∨ st = .confirming → s.slm.grip = 16 ∧ s.slm.slipCap = none)
    (hrecovering : st = .recovering → ¬(s.slm.grip = 16 ∧ s.slm.slipCap = none))
    (hn : n ≤ 7 ∧ n < s.config.confirmNumber) (hidle : st = .settling ∨ st = .watching → n = 0)
    (hconfirming : st = .confirming → 1 ≤ n) :
    { s with slm := { s.slm with
        state := st
        confirmCount := n
        settleTimer := if st = .settling then .running s.config.settleTime else .stopped } : State }.MonitorSafe :=
  { h with
    runs := h.runs_on hon hst
    off := fun hoff => absurd hoff hst
    sampleTimer := fun _ => h.sampleTimer hon
    settleTimer := rfl
    watching := hfull
    recovering := hrecovering
    count := ⟨hn.1, fun _ => hn.2⟩
    idle := hidle
    confirming := hconfirming }

/-- The settle timer of a monitor that is not SETTLING is stopped. -/
theorem State.MonitorSafe.settleTimer_stopped (h : s.MonitorSafe) (hst : s.slm.state ≠ .settling) :
    s.slm.settleTimer = .stopped := by
  rw [h.settleTimer, if_neg hst]

theorem State.MonitorSafe.confirmNumber_pos (h : s.MonitorSafe) (hon : s.slm.state ≠ .off) : 0 < s.config.confirmNumber :=
  Nat.zero_lt_of_lt (h.count.2 hon)

theorem Monitor.recovered_iff (m : Monitor) : m.recovered = true ↔ m.grip = 16 ∧ m.slipCap = none := by
  simp [recovered, Config.fullGrip]

theorem State.MonitorSafe.settleExpiry (h : s.MonitorSafe) : { s with slm := s.slm.settleExpiry : State }.MonitorSafe := by
  by_cases hst : s.slm.state = .settling
  · have hon : s.slm.state ≠ .off := by simp [hst]
    have hcount : s.slm.confirmCount = 0 := h.idle (.inl hst)
    by_cases hrec : s.slm.recovered = true
    · have heq : s.slm.settleExpiry = { s.slm with state := .watching, confirmCount := 0, settleTimer := .stopped } := by
        simp only [Monitor.settleExpiry, hst, hrec, if_true, ← hcount]
      rw [heq]
      exact h.moveTo hon .watching 0 (by decide) (fun _ => (Monitor.recovered_iff _).mp hrec) (fun hr => by cases hr)
        ⟨by decide, h.confirmNumber_pos hon⟩ (fun _ => rfl) (fun hc => by cases hc)
    · have heq : s.slm.settleExpiry = { s.slm with state := .recovering, confirmCount := 0, settleTimer := .stopped } := by
        simp only [Monitor.settleExpiry, hst, hrec, if_true, ← hcount, Bool.false_eq_true, if_false]
      rw [heq]
      exact h.moveTo hon .recovering 0 (by decide) (fun hw => by simp at hw)
        (fun _ hfull => hrec ((Monitor.recovered_iff _).mpr hfull)) ⟨by decide, h.confirmNumber_pos hon⟩ (fun _ => rfl)
        (fun hc => by cases hc)
  · have heq : s.slm.settleExpiry = s.slm := by
      simp only [Monitor.settleExpiry, if_neg hst, ← h.settleTimer_stopped hst]
    rw [heq]
    exact h

/-- Settling that has begun goes on, or, with a settle time of 0, ends in the same event (R119, R123). -/
theorem State.MonitorSafe.startSettling {m : Monitor}
    (h : { s with slm := { m with state := .settling, settleTimer := .running s.config.settleTime } : State }.MonitorSafe) :
    { s with slm := m.startSettling s.config.settleTime : State }.MonitorSafe := by
  unfold Monitor.startSettling
  split
  · rename_i hzero
    rw [hzero] at h
    exact h.settleExpiry
  · exact h

/-- The monitor's entry with the station's into SHARING (R119). -/
theorem State.MonitorSafe.enter (h : s.MonitorSafe) (hmode : s.ssv.mode ≠ .sharing) (hconfirm : 0 < s.config.confirmNumber)
    (sense : Sense) :
    { s with ssv := { s.ssv with mode := .sharing }, slm := s.slm.enter s.config sense : State }.MonitorSafe := by
  have hoff := (h.isOff hmode).eq
  have hevents := h.slipEvents
  rw [hoff]
  refine State.MonitorSafe.startSettling (s := { s with ssv := { s.ssv with mode := .sharing } }) ?_
  constructor
  case slipEvents => exact hevents
  all_goals simp [Monitor.afterReset, hconfirm]

/-! ## A sample (R122 to R132) -/

theorem State.MonitorSafe.takeSense (h : s.MonitorSafe) (hon : s.slm.state ≠ .off) (sense : Sense) :
    { s with slm := s.slm.takeSense sense s.config.settleTime : State }.MonitorSafe := by
  unfold Monitor.takeSense
  split
  · exact h
  · refine State.MonitorSafe.startSettling ?_
    exact
      { h with
        runs := h.runs_on hon (fun hoff => by cases hoff)
        off := fun hoff => by cases hoff
        sampleTimer := fun _ => h.sampleTimer hon
        settleTimer := rfl
        capTimer := rfl
        slipCap := fun c hc => by cases hc
        watching := fun hw => by simp at hw
        recovering := fun hr => by cases hr
        count := ⟨Nat.zero_le _, fun _ => h.confirmNumber_pos hon⟩
        idle := fun _ => rfl
        confirming := fun hc => by cases hc
        baseline := Nat.zero_le _ }

theorem State.MonitorSafe.filter (h : s.MonitorSafe) (hon : s.slm.state ≠ .off) {ref : Option Nat}
    (href : ∀ v, ref = some v → v ≤ 65535) (interval : Nat) :
    { s with slm := s.slm.filter ref interval : State }.MonitorSafe := by
  cases ref with
  | none => exact h.withFilter hon (fun v hv => by cases hv) h.accel
  | some v =>
    unfold Monitor.filter
    cases s.slm.prevRef with
    | none => exact h.withFilter hon href h.accel
    | some prev => exact h.withFilter hon href (clampInt_natAbs_le 20000 _)

theorem State.MonitorSafe.block (h : s.MonitorSafe) (hon : s.slm.state ≠ .off) :
    { s with slm := s.slm.block : State }.MonitorSafe := by
  have hpos := h.confirmNumber_pos hon
  by_cases hst : s.slm.state = .confirming
  · have heq : s.slm.block = { s.slm with state := .watching, confirmCount := 0, settleTimer := .stopped } := by
      simp only [Monitor.block, hst, if_true, ← h.settleTimer_stopped (by simp [hst])]
    rw [heq]
    exact h.moveTo hon .watching 0 (by decide) (fun _ => h.watching (.inr hst)) (fun hr => by cases hr) ⟨by decide, hpos⟩
      (fun _ => rfl) (fun hc => by cases hc)
  · have heq : s.slm.block = { s.slm with
        state := s.slm.state
        confirmCount := 0
        settleTimer := if s.slm.state = .settling then .running s.config.settleTime else .stopped } := by
      simp only [Monitor.block, if_neg hst, ← h.settleTimer]
    rw [heq]
    exact h.moveTo hon _ 0 hon h.watching h.recovering ⟨by decide, hpos⟩ (fun _ => rfl) (fun hc => absurd hc hst)

theorem learned_le {baseline slip : Nat} (hb : baseline ≤ 1000) (hs : slip ≤ 1000) : learned baseline slip ≤ 1000 := by
  unfold learned
  rcases Nat.le_total baseline slip with hle | hle
  · rw [Int.tdiv_eq_ediv_of_nonneg (by omega)]
    omega
  · have hneg : ((slip : Int) - baseline).tdiv 16 = -(((baseline : Int) - slip) / 16) := by
      rw [← Int.tdiv_eq_ediv_of_nonneg (by omega), ← Int.neg_tdiv, Int.neg_sub]
    rw [hneg]
    omega

theorem slipOf_le (sense : Sense) (own ref : Nat) : slipOf sense own ref ≤ 1000 := clampTop_le ..

/-- A quiet sample blocks nothing new: it is a blocked one with the baseline learned (R128, R131). -/
theorem Monitor.quietSlip_eq (m : Monitor) (slip : Nat) :
    m.quietSlip slip =
      { m with baseline := if m.state = .watching then learned m.baseline slip else m.baseline : Monitor }.block := rfl

theorem State.MonitorSafe.quietSlip (h : s.MonitorSafe) (hon : s.slm.state ≠ .off) {slip : Nat} (hslip : slip ≤ 1000) :
    { s with slm := s.slm.quietSlip slip : State }.MonitorSafe := by
  have hlearned : (if s.slm.state = .watching then learned s.slm.baseline slip else s.slm.baseline) ≤ 1000 := by
    split
    · exact learned_le h.baseline hslip
    · exact h.baseline
  rw [Monitor.quietSlip_eq]
  exact (h.withBaseline hon hlearned).block hon

theorem State.MonitorSafe.countSlip (h : s.MonitorSafe) (hon : s.slm.state ≠ .off) (hsettled : s.slm.state ≠ .settling)
    (hbound : s.config.confirmNumber ≤ 8) (hshort : s.slm.confirmCount + 1 < s.config.confirmNumber) :
    { s with slm := s.slm.countSlip : State }.MonitorSafe := by
  have hn : s.slm.confirmCount + 1 ≤ 7 ∧ s.slm.confirmCount + 1 < s.config.confirmNumber := ⟨by omega, hshort⟩
  have hstopped := h.settleTimer_stopped hsettled
  by_cases hst : s.slm.state = .watching
  · have heq : s.slm.countSlip = { s.slm with
        state := .confirming, confirmCount := s.slm.confirmCount + 1, settleTimer := .stopped } := by
      simp only [Monitor.countSlip, hst, if_true, ← hstopped]
    rw [heq]
    exact h.moveTo hon .confirming _ (by decide) (fun _ => h.watching (.inl hst)) (fun hr => by cases hr) hn
      (fun hi => by simp at hi) (fun _ => Nat.le_add_left ..)
  · have heq : s.slm.countSlip = { s.slm with
        state := s.slm.state
        confirmCount := s.slm.confirmCount + 1
        settleTimer := if s.slm.state = .settling then .running s.config.settleTime else .stopped } := by
      simp only [Monitor.countSlip, if_neg hst, ← h.settleTimer]
    rw [heq]
    exact h.moveTo hon _ _ hon h.watching h.recovering hn (fun hi => absurd hi (not_or.mpr ⟨hsettled, hst⟩))
      (fun _ => Nat.le_add_left ..)

/-! ## The slip event (R133 to R136) -/

theorem gripAfterSlip_range {g : Nat} (hg : g ≤ 16) : 4 ≤ gripAfterSlip g ∧ gripAfterSlip g ≤ 8 := by
  simp only [gripAfterSlip, Config.leastGrip]
  omega

theorem newSlipCap_le {step : Nat} {held : Int} (hstep : step ≤ 2000) (hheld : held.natAbs ≤ 8000) (sense : Sense) :
    (newSlipCap step held sense).magnitude ≤ 8000 := by
  simp only [newSlipCap]
  omega

/-- A slip event in a settled monitor that has read a sense, with a held command within the greatest wheel cap. -/
theorem State.MonitorSafe.slipEvent (h : s.MonitorSafe) (hon : s.slm.state ≠ .off) (hsettled : s.slm.state ≠ .settling)
    {held : Int} (hstep : s.config.recoveryStep ≤ 2000) (hheld : held.natAbs ≤ 8000) (hsense : s.slm.lastSense ≠ .none) :
    { s with slm := s.slm.slipEvent s.config s.slm.lastSense held : State }.MonitorSafe := by
  have hgrip : 4 ≤ gripAfterSlip s.slm.grip ∧ gripAfterSlip s.slm.grip ≤ 8 := gripAfterSlip_range h.grip.2
  have hpartial : gripAfterSlip s.slm.grip ≠ 16 := by omega
  exact
    { h with
      runs := h.runs_on hon (fun hoff => by cases hoff)
      off := fun hoff => by cases hoff
      sampleTimer := fun _ => h.sampleTimer hon
      settleTimer := h.settleTimer_stopped hsettled
      grip := ⟨hgrip.1, by simp only [Monitor.slipEvent]; omega⟩
      gripTimer := (if_neg hpartial).symm
      capTimer := by
        by_cases hw : s.config.withdrawOnSlip = true
        · simp [Monitor.slipEvent, hw]
        · simpa [Monitor.slipEvent, hw] using h.capTimer
      slipCap := fun c hc => by
        by_cases hw : s.config.withdrawOnSlip = true
        · simp only [Monitor.slipEvent, hw, if_true, Option.some.injEq] at hc
          subst hc
          exact ⟨hw, rfl, hsense, newSlipCap_le hstep hheld _⟩
        · simp only [Monitor.slipEvent, hw, Bool.false_eq_true, if_false] at hc
          exact h.slipCap c hc
      watching := fun hw => by simp [Monitor.slipEvent] at hw
      recovering := fun _ hfull => hpartial hfull.1
      count := ⟨Nat.zero_le _, fun _ => h.confirmNumber_pos hon⟩
      idle := fun _ => rfl
      confirming := fun hc => by cases hc
      slipEvents := countUp_le _ }

/-! ## Recovery (R137 to R139) -/

/-- A step of a recovery, with R139 where it applies. -/
theorem State.MonitorSafe.recover (h : s.MonitorSafe) (hon : s.slm.state ≠ .off) {g : Nat} {gripTimer capTimer : Timer}
    {slipCap : Option SlipCap} (hg : 4 ≤ g ∧ g ≤ 16)
    (hgripTimer : gripTimer = if g = 16 then .stopped else .running s.config.recoveryInterval)
    (hcapTimer : capTimer = if slipCap = none then .stopped else .running s.config.recoveryInterval)
    (hcap : ∀ c, slipCap = some c →
      s.config.withdrawOnSlip = true ∧ c.sense = s.slm.lastSense ∧ c.sense ≠ .none ∧ c.magnitude ≤ 8000)
    (hunwatched : ¬(s.slm.state = .watching ∨ s.slm.state = .confirming)) :
    { s with slm := ({ s.slm with
        grip := g, gripTimer := gripTimer, slipCap := slipCap, capTimer := capTimer } : Monitor).finishRecovery
      : State }.MonitorSafe := by
  have hstep : s.slm.state ≠ .recovering ∨ ¬(g = 16 ∧ slipCap = none) → { s with slm := { s.slm with
      grip := g, gripTimer := gripTimer, slipCap := slipCap, capTimer := capTimer } : State }.MonitorSafe := fun hgoing =>
    { h with
      off := fun hoff => absurd hoff hon
      grip := hg
      gripTimer := hgripTimer
      capTimer := hcapTimer
      slipCap := hcap
      watching := fun hw => absurd hw hunwatched
      recovering := fun hr => hgoing.resolve_left (not_not_intro hr) }
  unfold Monitor.finishRecovery
  split
  · rename_i hends
    simp only [Monitor.endsRecovery, Bool.and_eq_true, beq_iff_eq, Monitor.recovered_iff] at hends
    obtain ⟨hst, hgrip, hnone⟩ := hends
    exact
      { h with
        runs := h.runs_on hon (fun hoff => by cases hoff)
        off := fun hoff => by cases hoff
        sampleTimer := fun _ => h.sampleTimer hon
        settleTimer := h.settleTimer_stopped (by simp [hst])
        grip := hg
        gripTimer := hgripTimer
        capTimer := hcapTimer
        slipCap := hcap
        watching := fun _ => ⟨hgrip, hnone⟩
        recovering := fun hr => by cases hr
        count := ⟨Nat.zero_le _, fun _ => h.confirmNumber_pos hon⟩
        idle := fun _ => rfl
        confirming := fun hc => by cases hc }
  · rename_i hgoing
    simp only [Monitor.endsRecovery, Bool.and_eq_true, beq_iff_eq, Monitor.recovered_iff] at hgoing
    exact hstep (not_and_or.mp hgoing)

theorem State.MonitorSafe.gripTimer_running (h : s.MonitorSafe) (hrun : s.slm.gripTimer.isRunning = true) :
    s.slm.grip ≠ 16 := by
  intro hfull
  rw [h.gripTimer, if_pos hfull] at hrun
  cases hrun

theorem State.MonitorSafe.capTimer_running (h : s.MonitorSafe) (hrun : s.slm.capTimer.isRunning = true) :
    ∃ c, s.slm.slipCap = some c := by
  rw [← Option.ne_none_iff_exists']
  intro hnone
  rw [h.capTimer, if_pos hnone] at hrun
  cases hrun

/-- A monitor that has something to recover runs, and neither watches nor confirms. -/
theorem State.MonitorSafe.recovering_of_held (h : s.MonitorSafe) (hheld : ¬(s.slm.grip = 16 ∧ s.slm.slipCap = none)) :
    s.slm.state ≠ .off ∧ ¬(s.slm.state = .watching ∨ s.slm.state = .confirming) := by
  refine ⟨fun hoff => hheld ?_, fun hw => hheld (h.watching hw)⟩
  have hoff' : s.slm.IsOff := h.off hoff
  rw [hoff'.eq]
  exact ⟨rfl, rfl⟩

theorem State.MonitorSafe.gripStep (h : s.MonitorSafe) (hrun : s.slm.gripTimer.isRunning = true) :
    { s with slm := (s.slm.gripStep s.config.recoveryInterval).finishRecovery : State }.MonitorSafe := by
  have hpartial := h.gripTimer_running hrun
  have hgrip := h.grip
  obtain ⟨hon, hunwatched⟩ := h.recovering_of_held fun hfull => hpartial hfull.1
  refine h.recover hon (g := min 16 (s.slm.grip + 1)) (by omega) ?_ h.capTimer h.slipCap hunwatched
  by_cases hfull : 16 ≤ s.slm.grip + 1
  · rw [if_pos (by omega : min 16 (s.slm.grip + 1) = 16)]
    exact if_pos hfull
  · rw [if_neg (by omega : ¬min 16 (s.slm.grip + 1) = 16)]
    exact if_neg hfull

theorem State.MonitorSafe.capStep (h : s.MonitorSafe) (hrun : s.slm.capTimer.isRunning = true) {caps : Caps}
    (hcaps : caps.prop ≤ 8000 ∧ caps.ret ≤ 8000) :
    { s with slm := (s.slm.capStep s.config.recoveryStep s.config.recoveryInterval caps).finishRecovery
      : State }.MonitorSafe := by
  obtain ⟨c, hc⟩ := h.capTimer_running hrun
  obtain ⟨hon, hunwatched⟩ := h.recovering_of_held fun hfull => by simp [hc] at hfull
  obtain ⟨hwithdraw, hlast, hsense, -⟩ := h.slipCap c hc
  have hcap : caps.ofSense c.sense ≤ 8000 := by
    cases c.sense with
    | none => exact Nat.zero_le _
    | propulsive => exact hcaps.1
    | retarding => exact hcaps.2
  simp only [Monitor.capStep, hc]
  split
  · exact h.recover hon h.grip h.gripTimer rfl (fun k hk => by cases hk) hunwatched
  · rename_i hbelow
    refine h.recover hon h.grip h.gripTimer rfl (fun k hk => ?_) hunwatched
    cases hk
    exact ⟨hwithdraw, hlast, hsense, by simp only; omega⟩

end

end Sys2Proof.Machine
end

section
/-! PROOFS. The Split Engine and the Command Stage through a computation: what it starts from, what it stores, and the held
command it leaves (R2, R4, R8 to R13, R22, R23, R33, R36, R37, R163). -/

namespace Sys2Proof.Machine

/-! ## Legal figures (R11, R12, R163) -/

theorem clampMeasure_legal (r : MeasureRecord) : (clampMeasure r).Legal :=
  ⟨clampTop_le .., clampTop_le .., clampTop_le .., clampTop_le ..⟩

theorem wheelCaps_le (gearRatio : Nat) (m : Measure) :
    (wheelCaps gearRatio m).prop ≤ 8000 ∧ (wheelCaps gearRatio m).ret ≤ 8000 :=
  ⟨Nat.min_le_left .., Nat.min_le_left ..⟩

theorem effectiveDemand_legal {sn : Snapshot} {before : DemandInForce} (hsn : sn.demand.natAbs ≤ 16000)
    (hbefore : before.dEff.natAbs ≤ 16000) (rampLimit : Nat) : (effectiveDemand sn before rampLimit).Legal := by
  refine ⟨?_, effectiveDemand_sense ..⟩
  cases hstate : sn.demandState with
  | fresh =>
    rw [effectiveDemand_fresh hstate]
    exact hsn
  | stale =>
    rw [effectiveDemand_stale hstate]
    exact (decayToward0_natAbs ..).trans_le ((Nat.sub_le ..).trans hbefore)
  | none =>
    rw [effectiveDemand_none hstate]
    exact Nat.zero_le _

/-! ## Torque of the demand's sign (R22, R33) -/

/-- A torque that is 0 or has the sign of a demand. -/
def OfSign (dEff x : Int) : Prop := x ≠ 0 → (x < 0 ↔ dEff < 0)

theorem passZero_ofSign (held dEff : Int) : OfSign dEff (passZero held dEff) := by
  unfold passZero OfSign
  split <;> omega

theorem rampToward_ofSign {dEff held target : Int} (hheld : OfSign dEff held) (htarget : OfSign dEff target) (step : Nat) :
    OfSign dEff (rampToward held target step) := by
  unfold OfSign rampToward at *
  split
  · exact htarget
  · split <;> omega

theorem clampMagnitude_ofSign {dEff x : Int} (hx : OfSign dEff x) (cap : Nat) : OfSign dEff (clampMagnitude x cap) := by
  intro hne
  have hx0 : x ≠ 0 := by
    rintro rfl
    exact hne (Int.natAbs_eq_zero.mp (by simp))
  rw [clampMagnitude_neg_iff hne, hx hx0]

theorem divide_ofSign {dEff : Int} {sense : Sense} {ps : List Participant} {e : ShareEntry}
    (he : e ∈ (divide dEff sense ps).entries) : OfSign dEff e.share := by
  by_cases hempty : sense = .none ∨ ps = []
  · rw [divide_empty hempty, List.mem_map] at he
    obtain ⟨p, -, rfl⟩ := he
    exact fun hne => absurd rfl hne
  · obtain ⟨hs, hps⟩ := not_or.mp hempty
    rw [divide_entries hs hps, List.mem_map] at he
    obtain ⟨p, -, rfl⟩ := he
    exact shareEntry_sign _ _ _

theorem compute_ownShare_ofSign (c : Setup) (own : StationNumber) (sn : Snapshot) (before : DemandInForce)
    (slipCap : Option SlipCap) :
    OfSign (compute c own sn before slipCap).inForce.dEff (compute c own sn before slipCap).ownShare := by
  by_cases hmode : sn.mode = .sharing
  · obtain ⟨e, he, -, hshare⟩ := compute_ownShare_sharing c own sn before slipCap hmode
    rw [hshare]
    exact divide_ofSign he
  · have hzero : (compute c own sn before slipCap).ownShare = 0 := if_neg hmode
    exact fun hne => absurd hzero hne

/-! ## The Command Stage after a completion -/

/-- The held command of a completion has the sign of the demand handed over (R31, R33, R36). -/
theorem CommandStage.complete_ofSign (c : CommandStage) (cfg : Setup) {h : HandOff} (hshare : OfSign h.dEff h.share) :
    OfSign h.dEff (c.complete cfg h).held := by
  by_cases hz : h.mode ≠ .sharing ∨ h.sense = .none
  · exact fun hne => absurd (c.complete_zero cfg hz).1 hne
  · obtain ⟨hm, hs⟩ := not_or.mp hz
    rw [c.complete_held cfg (not_not.mp hm) hs]
    exact clampMagnitude_ofSign (rampToward_ofSign (passZero_ofSign _ _) hshare _) _

/-- The held command of a completion keeps within the effective cap it leaves in force (R36). -/
theorem CommandStage.complete_held_le (c : CommandStage) (cfg : Setup) (h : HandOff) :
    (c.complete cfg h).held.natAbs ≤ (c.complete cfg h).effectiveCap h.slipCap cfg.sagCap := by
  by_cases hz : h.mode ≠ .sharing ∨ h.sense = .none
  · rw [(c.complete_zero cfg hz).1]
    exact Nat.zero_le _
  · obtain ⟨hm, hs⟩ := not_or.mp hz
    rw [c.complete_held cfg (not_not.mp hm) hs, clampMagnitude_natAbs]
    exact Nat.min_le_right ..

section
variable {s : State} {sn : Snapshot}

/-- A completion leaves a safe Command Stage whatever it found, as its demand in force is legal (R11). -/
theorem State.CommandSafe.stored (hlegal : (s.result sn).inForce.Legal) : (s.stored sn).CommandSafe where
  caps := CommandStage.complete_caps ..
  sense := CommandStage.complete_sense ..
  gripMode := CommandStage.complete_gripMode ..
  sharing hmode := s.cms.complete_zero s.config (h := s.handOff sn) (.inl hmode)
  sign hne := by
    refine ⟨s.cms.complete_ofSign s.config (h := s.handOff sn) (compute_ownShare_ofSign _ _ _ _ _) hne, fun hzero => ?_⟩
    have hsense : (s.handOff sn).sense = .none := by
      have hd : (s.result sn).inForce.dEff = 0 := hzero
      change (s.result sn).inForce.sense = .none
      rw [hlegal.sense, hd, senseOf_zero]
    exact hne (s.cms.complete_zero s.config (.inr hsense)).1
  cap := s.cms.complete_held_le s.config (s.handOff sn)
  motor := CommandStage.complete_motor ..

/-! ## The Split Engine through a computation -/

theorem State.EngineSafe.result_legal (h : s.EngineSafe) (hsnap : s.spe.snapshot = some sn) :
    (s.result sn).inForce.Legal :=
  effectiveDemand_legal (h.snapshot sn hsnap).2.1 h.inForce.range _

theorem State.EngineSafe.configured_of_busy (h : s.EngineSafe) (hbusy : s.spe.state = .busy) :
    s.ssv.mode ≠ .unconfigured := fun hmode => by
  rw [h.unconfigured hmode] at hbusy
  cases hbusy

/-- The Split Engine after a completion, with no MEASURE waiting (R23). -/
theorem State.EngineSafe.stored (h : s.EngineSafe) (hbusy : s.spe.state = .busy) (hsnap : s.spe.snapshot = some sn) :
    { s.stored sn with lpt := { s.lpt with holding := none } : State }.EngineSafe where
  busy hb := by cases hb
  idle _ := rfl
  unconfigured hmode := absurd hmode (h.configured_of_busy hbusy)
  snapshot := h.snapshot
  holding m hm := by cases hm
  inForce := h.result_legal hsnap
  caps := wheelCaps_le ..
  weight := ownWeightOf_le _ _ _ _ (h.snapshot sn hsnap).2.2
  vector v hv := by
    simp only [State.stored, SplitEngine.store] at hv
    split at hv
    · cases hv
    · cases hv
      exact ⟨rfl, rfl, rfl⟩

theorem State.EngineSafe.startComputation (h : s.EngineSafe) (hmode : s.ssv.mode ≠ .unconfigured) (hgrip : s.slm.grip ≤ 16)
    (hdemand : s.ptb.demand.demand.natAbs ≤ 16000) {m : Measure} (hm : m.Legal) : (s.startComputation m).EngineSafe :=
  { h with
    busy := fun _ => rfl
    idle := fun hi => by cases hi
    unconfigured := fun hu => absurd hu hmode
    snapshot := fun sn hsn => by
      cases hsn
      exact ⟨hm, hdemand, hgrip⟩ }

theorem State.TorqueSafe.startComputation (hs : s.TorqueSafe) (hmode : s.ssv.mode ≠ .unconfigured) {m : Measure}
    (hm : m.Legal) : (s.startComputation m).TorqueSafe where
  config := hs.config.congr id rfl rfl
  table := hs.table.congr id rfl rfl rfl
  monitor := hs.monitor.congr rfl rfl rfl
  engine := hs.engine.startComputation hmode hs.monitor.grip.2 hs.table.demand.range hm
  command := hs.command.congr rfl rfl rfl rfl rfl le_rfl

theorem State.TorqueSafe.stored (hs : s.TorqueSafe) (hbusy : s.spe.state = .busy) (hsnap : s.spe.snapshot = some sn) :
    { s.stored sn with lpt := { s.lpt with holding := none } : State }.TorqueSafe where
  config := hs.config.congr id rfl rfl
  table := hs.table.congr id rfl rfl rfl
  monitor := hs.monitor.congr rfl rfl rfl
  engine := hs.engine.stored hbusy hsnap
  command := (State.CommandSafe.stored (hs.engine.result_legal hsnap)).congr rfl rfl rfl rfl rfl le_rfl

theorem State.TorqueSafe.complete (hs : s.TorqueSafe) (hbusy : s.spe.state = .busy) (hsnap : s.spe.snapshot = some sn) :
    (s.complete sn).TorqueSafe := by
  have hstored := hs.stored hbusy hsnap
  have hreported : ((s.stored sn).reportSag s.cms.sag sn.measure.voltage).lpt.holding = s.lpt.holding :=
    State.reportSag_holding ..
  rw [State.complete_eq]
  cases hwaiting : s.lpt.holding with
  | none =>
    rw [State.chain_idle (hreported.trans hwaiting)]
    refine hstored.congr ?_
    constructor
    case holding => exact hreported.trans hwaiting
    all_goals simp
  | some m =>
    rw [State.chain_waiting (hreported.trans hwaiting)]
    refine State.TorqueSafe.startComputation (hstored.congr ?_) ?_ (hs.engine.holding m hwaiting)
    · constructor <;> simp
    · rw [State.reportSag_ssv]
      exact hs.engine.configured_of_busy hbusy

/-- A MEASURE arriving while BUSY is held (R164). -/
theorem State.TorqueSafe.holdMeasure (hs : s.TorqueSafe) (hbusy : s.spe.state = .busy) {m : Measure} (hm : m.Legal) :
    (s.holdMeasure m).TorqueSafe := by
  have hheld : ∀ l : LocalPort, l.holding = some m → { s with lpt := l : State }.TorqueSafe := fun l hl =>
    { config := hs.config.congr id rfl rfl
      table := hs.table.congr id rfl rfl rfl
      monitor := hs.monitor.congr rfl rfl rfl
      engine :=
        { hs.engine with
          idle := fun hi => by simp [hbusy] at hi
          holding := fun k hk => Option.some.inj (hl.symm.trans hk) ▸ hm }
      command := hs.command.congr rfl rfl rfl rfl rfl le_rfl }
  unfold State.holdMeasure
  split
  · exact hheld _ rfl
  · refine State.TorqueSafe.notify ?_ ..
    exact hheld _ rfl

/-- The state in which an accepted MEASURE reaches the Split Engine: a clamp noted, the measure timer restarted (R163, R154). -/
def State.measureNoted (s : State) (r : MeasureRecord) : State :=
  { s.noteClamp r with
    ssv := { (s.noteClamp r).ssv with measureTimer := .running (s.noteClamp r).config.measureTimeout } }

theorem State.acceptMeasure_eq (s : State) (r : MeasureRecord) :
    s.acceptMeasure r =
      if s.spe.state = .busy then (s.measureNoted r).holdMeasure (clampMeasure r)
      else (s.measureNoted r).startComputation (clampMeasure r) := by
  cases hstate : s.spe.state <;> simp [State.acceptMeasure, State.measureNoted, hstate]

theorem State.TorqueSafe.acceptMeasure (hs : s.TorqueSafe) (hmode : s.ssv.mode ≠ .unconfigured) (r : MeasureRecord) :
    (s.acceptMeasure r).TorqueSafe := by
  have hnoted : (s.measureNoted r).TorqueSafe := (hs.noteClamp r).withSupervisor rfl rfl
  rw [State.acceptMeasure_eq]
  split
  · rename_i hbusy
    exact hnoted.holdMeasure (by simpa [State.measureNoted] using hbusy) (clampMeasure_legal r)
  · exact hnoted.startComputation (by simpa [State.measureNoted] using hmode) (clampMeasure_legal r)

end

end Sys2Proof.Machine
end

section
/-! PROOFS. The torque stays safe through every operation of the station: changes of its mode, frames of its peers, the samples
and the recoveries (O60). -/

namespace Sys2Proof.Machine

section
variable {s t : State}

/-! ## The Command Stage over a change of mode (R26, R40, R41) -/

theorem State.CommandSafe.zeroed (hs : s.CommandSafe) (hinForce : t.spe.inForce = s.spe.inForce)
    (hcaps : t.spe.ownCaps = s.spe.ownCaps) (hcms : t.cms = s.cms.zeroed) : t.CommandSafe :=
  .of_zero (by rw [hcms, hcaps]; exact hs.caps) (by rw [hcms, hinForce]; exact hs.sense)
    (by rw [hcms, hinForce]; exact hs.gripMode) (by rw [hcms]; rfl) (by rw [hcms]; rfl) (by rw [hcms]; rfl)

/-- Out of SHARING the held command is 0, so the station may take any mode. -/
theorem State.CommandSafe.unloaded (hs : s.CommandSafe) (hmode : s.ssv.mode ≠ .sharing)
    (hinForce : t.spe.inForce = s.spe.inForce) (hcaps : t.spe.ownCaps = s.spe.ownCaps)
    (hcms : t.cms = s.cms) : t.CommandSafe := by
  obtain ⟨hheld, hmotor, hlimited⟩ := hs.zero hmode
  exact .of_zero (by rw [hcms, hcaps]; exact hs.caps) (by rw [hcms, hinForce]; exact hs.sense)
    (by rw [hcms, hinForce]; exact hs.gripMode) (by rw [hcms]; exact hheld) (by rw [hcms]; exact hmotor)
    (by rw [hcms]; exact hlimited)

/-! ## Departure from SHARING (R40, R120, R148 to R150) -/

theorem State.leaveSharing_of_sharing (h : s.ssv.mode = .sharing) :
    s.leaveSharing = { s with cms := s.cms.zeroed, slm := s.slm.goOff } := if_pos h

theorem State.leaveSharing_of_not_sharing (h : s.ssv.mode ≠ .sharing) : s.leaveSharing = s := if_neg h

/-- A configured station that leaves SHARING, or was not in it, may take any other configured mode. -/
theorem State.TorqueSafe.depart (hs : s.TorqueSafe) (hmode : s.ssv.mode ≠ .unconfigured) {v : Supervisor}
    (hconfigured : v.mode ≠ .unconfigured) (hout : v.mode ≠ .sharing) (hown : v.ownNumber = s.ssv.ownNumber) :
    { s.leaveSharing with ssv := v : State }.TorqueSafe := by
  by_cases hsharing : s.ssv.mode = .sharing
  · rw [State.leaveSharing_of_sharing hsharing]
    exact
      { config := hs.config.congr (fun h => absurd h hmode) rfl hown
        table := hs.table.congr (fun h => absurd h hconfigured) rfl hown rfl
        monitor := .of_off (Monitor.goOff_isOff _) hout hs.monitor.slipEvents
        engine := hs.engine.congr (fun h => absurd h hconfigured) rfl rfl
        command := hs.command.zeroed rfl rfl rfl }
  · rw [State.leaveSharing_of_not_sharing hsharing]
    exact
      { config := hs.config.congr (fun h => absurd h hmode) rfl hown
        table := hs.table.congr (fun h => absurd h hconfigured) rfl hown rfl
        monitor := .of_off (hs.monitor.isOff hsharing) hout hs.monitor.slipEvents
        engine := hs.engine.congr (fun h => absurd h hconfigured) rfl rfl
        command := hs.command.unloaded hsharing rfl rfl rfl }

theorem State.TorqueSafe.enterSafe (hs : s.TorqueSafe) (hmode : s.ssv.mode ≠ .unconfigured) (c : FaultCause) :
    (s.enterSafe c).TorqueSafe := by
  have hdeparted : { s.leaveSharing with ssv := s.ssv.enterSafe c : State }.TorqueSafe :=
    hs.depart hmode (fun h => by cases h) (fun h => by cases h) rfl
  have hsafe : (s.goSafe c).TorqueSafe := (hdeparted.withScheduler _).withScheduler _
  exact (hsafe.notify ..).move

theorem State.TorqueSafe.classAInSafe (hs : s.TorqueSafe) (c : FaultCause) : (s.classAInSafe c).TorqueSafe := by
  unfold State.classAInSafe
  refine State.TorqueSafe.notify ?_ ..
  exact hs.withSupervisor rfl rfl

theorem State.TorqueSafe.classA (hs : s.TorqueSafe) (c : FaultCause) : (s.classA c).TorqueSafe := by
  cases hmode : s.ssv.mode with
  | unconfigured =>
    rw [s.classA_unconfigured c hmode]
    exact hs
  | announcing =>
    rw [s.classA_active c (.inl hmode)]
    exact hs.enterSafe (by simp [hmode]) c
  | sharing =>
    rw [s.classA_active c (.inr hmode)]
    exact hs.enterSafe (by simp [hmode]) c
  | safe =>
    rw [s.classA_safe c hmode]
    exact hs.classAInSafe c

theorem State.TorqueSafe.measureExpired (hs : s.TorqueSafe) : s.measureExpired.TorqueSafe := by
  unfold State.measureExpired
  split
  · exact hs
  · exact hs.classA _
  · exact hs.classA _
  · split
    · exact hs
    · refine State.TorqueSafe.notify ?_ ..
      exact hs.withSupervisor rfl rfl

/-! ## Entry into SHARING and the way back (R119, R147, R152) -/

theorem State.TorqueSafe.enterSharing (hs : s.TorqueSafe) (hmode : s.ssv.mode = .announcing) :
    s.enterSharing.TorqueSafe := by
  have hconfigured : s.configured := by simp [State.configured, hmode]
  have hout : s.ssv.mode ≠ .sharing := by simp [hmode]
  have hconfirm : 0 < s.config.confirmNumber := (hs.config hconfigured).1.confirmNumber.1
  have hentered : { s with
      ssv := { s.ssv with mode := .sharing }, slm := s.slm.enter s.config s.spe.inForce.sense : State }.TorqueSafe :=
    { config := hs.config.congr (fun h => absurd h hconfigured) rfl rfl
      table := hs.table.congr (fun h => by cases h) rfl rfl rfl
      monitor := hs.monitor.enter hout hconfirm _
      engine := hs.engine.congr (fun h => by cases h) rfl rfl
      command := hs.command.unloaded hout rfl rfl rfl }
  exact hentered.withScheduler _

theorem State.TorqueSafe.reportSent (hs : s.TorqueSafe) (f : OwnFrame) : (s.reportSent f).TorqueSafe := by
  have hcounted : ∀ n, { s with ssv := { s.ssv with joinCount := n } : State }.TorqueSafe := fun n =>
    hs.withSupervisor rfl rfl
  simp only [State.reportSent]
  split
  · rename_i hjoined
    exact (hcounted _).enterSharing hjoined.1
  · exact hcounted _

theorem State.TorqueSafe.resumeJoin (hs : s.TorqueSafe) (hmode : s.ssv.mode = .safe) : s.resumeJoin.TorqueSafe := by
  have hjoining : { s with ssv := { s.ssv with
      mode := .announcing, faultCause := none, joinCount := 0, measureTimer := .running s.config.measureTimeout }
      : State }.TorqueSafe := by
    have hdeparted := hs.depart (by simp [hmode]) (v := { s.ssv with
      mode := .announcing, faultCause := none, joinCount := 0, measureTimer := .running s.config.measureTimeout })
      (fun h => by cases h) (fun h => by cases h) rfl
    rwa [State.leaveSharing_of_not_sharing (by simp [hmode])] at hdeparted
  exact ((hjoining.withLink _).withScheduler _).move

/-- The state after a second echo failure, but for LINK_MUTE and the move (R84, R147). -/
def State.frameDropped (s : State) (f : TransmitFrame) : State :=
  { s with slc := s.slc.dropOwn, ssv := { s.ssv with joinCount := 0 } : State }.notify .echoFail (some s.ssv.ownNumber)
    (f.seq.map BitVec.toNat)

theorem State.dropFrame_eq (s : State) (f : TransmitFrame) :
    s.dropFrame f =
      (if s.slc.echoRun + 1 = Config.muteRun then (s.frameDropped f).classA .linkMute else s.frameDropped f).move := rfl

theorem State.TorqueSafe.dropFrame (hs : s.TorqueSafe) (f : TransmitFrame) : (s.dropFrame f).TorqueSafe := by
  have hdropped : (s.frameDropped f).TorqueSafe := by
    refine State.TorqueSafe.notify ?_ ..
    exact (hs.withLink s.slc.dropOwn).withSupervisor rfl rfl
  rw [State.dropFrame_eq]
  split
  · exact (hdropped.classA _).move
  · exact hdropped.move

/-! ## A link reset seen (R67, R87, R120, R156) -/

theorem Supervisor.linkReset_mode (v : Supervisor) :
    v.linkReset.mode = if v.mode = .sharing then .announcing else v.mode := by
  cases hmode : v.mode <;> simp [Supervisor.linkReset, hmode]

@[simp] theorem Supervisor.linkReset_ownNumber (v : Supervisor) : v.linkReset.ownNumber = v.ownNumber := by
  unfold Supervisor.linkReset
  split <;> rfl

theorem Supervisor.linkReset_unconfigured_iff (v : Supervisor) :
    v.linkReset.mode = .unconfigured ↔ v.mode = .unconfigured := by
  rw [v.linkReset_mode]
  split <;> simp [*]

theorem Supervisor.linkReset_not_sharing (v : Supervisor) : v.linkReset.mode ≠ .sharing := by
  rw [v.linkReset_mode]
  split <;> simp [*]

theorem State.MonitorSafe.linkReset_isOff (hs : s.MonitorSafe) : (s.slm.linkReset s.ssv.mode).IsOff := by
  unfold Monitor.linkReset
  split
  · exact Monitor.goOff_isOff _
  · exact hs.isOff ‹_›

theorem Monitor.linkReset_slipEvents (m : Monitor) (mode : StationMode) : (m.linkReset mode).slipEvents = m.slipEvents := by
  unfold Monitor.linkReset
  split <;> rfl

theorem SplitEngine.linkReset_afterReset : SplitEngine.afterReset.linkReset = .afterReset := rfl

theorem State.EngineSafe.linkReset (hs : s.EngineSafe) : s.linkReset.EngineSafe where
  busy := hs.busy
  idle := by
    simp only [State.linkReset, State.notify_holding]
    exact hs.idle
  unconfigured hmode := by
    have hbefore : s.ssv.mode = .unconfigured := (Supervisor.linkReset_unconfigured_iff _).mp hmode
    change s.spe.linkReset = _
    rw [hs.unconfigured hbefore, SplitEngine.linkReset_afterReset]
  snapshot := hs.snapshot
  holding := by
    simp only [State.linkReset, State.notify_holding]
    exact hs.holding
  inForce := hs.inForce
  caps := hs.caps
  weight := hs.weight
  vector v hv := by cases hv

theorem State.TorqueSafe.linkReset (hs : s.TorqueSafe) : s.linkReset.TorqueSafe where
  config := hs.config.congr (Supervisor.linkReset_unconfigured_iff _).mpr rfl (Supervisor.linkReset_ownNumber _)
  table := hs.table.linkReset.congr (Supervisor.linkReset_unconfigured_iff _).mp rfl (Supervisor.linkReset_ownNumber _) rfl
  monitor := .of_off hs.monitor.linkReset_isOff (Supervisor.linkReset_not_sharing _)
    ((Monitor.linkReset_slipEvents _ _).trans_le hs.monitor.slipEvents)
  engine := hs.engine.linkReset
  command := hs.command.zeroed rfl rfl rfl

/-! ## SETUP and the part reset (R143, R162) -/

theorem storedSetup_inRange {r : SetupRecord} (h : firstOutOfRange r = none) : (storedSetup r).InRange := by
  have hall : ∀ c ∈ setupChecks r, c.2 = true := by
    simpa [firstOutOfRange, List.find?_eq_none] using h
  simp only [setupChecks, inRange, List.forall_mem_cons, Bool.and_eq_true, decide_eq_true_eq] at hall
  obtain ⟨channelCount, teeth, circumference, minToothPeriod, gearRatio, publishPeriod, silenceTimeout, demandTimeout,
    measureTimeout, rampLimit, loadTransfer, slipSampleInterval, slipThreshold, confirmNumber, settleTime, -, launchSpeed, -,
    recoveryInterval, recoveryStep, sagThreshold, sagCap, discordBand, noticeThreshold, interimTime, -⟩ := hall
  exact ⟨channelCount, teeth, circumference, minToothPeriod, gearRatio, publishPeriod, silenceTimeout, demandTimeout,
    measureTimeout, rampLimit, loadTransfer, slipSampleInterval, slipThreshold, confirmNumber, settleTime.2, launchSpeed.2,
    recoveryInterval, recoveryStep, sagThreshold, sagCap.2, discordBand, noticeThreshold, interimTime⟩

theorem State.TorqueSafe.acceptSetup (hs : s.TorqueSafe) (hmode : s.ssv.mode = .unconfigured) (hown : s.ssv.ownNumber ≠ 0)
    {c : Setup} (hc : c.InRange) : (s.acceptSetup c).TorqueSafe := by
  have hout : s.ssv.mode ≠ .sharing := by simp [hmode]
  have hspe := hs.engine.unconfigured hmode
  have hconfigured : (s.configure c).TorqueSafe :=
    { config := fun _ => ⟨hc, hown⟩
      table := .of_cleared (hs.table.unheard hmode).1 (hs.table.unheard hmode).2
      monitor := .of_off (hs.monitor.isOff hout) (fun h => by cases h) hs.monitor.slipEvents
      engine := hs.engine.congr (fun h => by cases h) rfl rfl
      command := .of_zero (by simp only [State.configure_spe, hspe]; rfl) (by simp only [State.configure_spe, hspe]; rfl)
        (by simp only [State.configure_spe, hspe]; rfl) rfl rfl rfl }
  have hinterim : ((s.configure c).notify .setupAccepted (some s.ssv.ownNumber) none).startInterim.TorqueSafe :=
    (hconfigured.notify ..).withPort rfl
  exact hinterim.place _

theorem State.afterReset_torqueSafe (pending : List Instr) (timebase : TimeStamp) (cause : ResetCause)
    (number : StationNumber) : (State.afterReset pending timebase cause number).TorqueSafe where
  config h := absurd rfl h
  table := .of_cleared rfl fun n => by simp [State.afterReset, PeerTable.afterReset, PeerTable.entry]
  monitor := .of_off rfl (by simp [State.afterReset, Supervisor.afterReset]) (Nat.zero_le _)
  engine :=
    { busy := fun h => by cases h
      idle := fun _ => rfl
      unconfigured := fun _ => rfl
      snapshot := fun sn h => by cases h
      holding := fun m h => by cases h
      inForce := ⟨Nat.zero_le _, rfl⟩
      caps := ⟨Nat.zero_le _, Nat.zero_le _⟩
      weight := Nat.zero_le _
      vector := fun v h => by cases h }
  command := .of_zero rfl rfl rfl rfl rfl rfl

/-! ## The Peer Table (R44 to R65) -/

theorem State.TorqueSafe.withTable (hs : s.TorqueSafe) {ptb : PeerTable} (h : { s with ptb := ptb : State }.TableSafe) :
    { s with ptb := ptb : State }.TorqueSafe where
  config := hs.config.congr id rfl rfl
  table := h
  monitor := hs.monitor.congr rfl rfl rfl
  engine := hs.engine.congr id rfl rfl
  command := hs.command.congr rfl rfl rfl rfl rfl le_rfl

theorem State.TorqueSafe.withEntry (hs : s.TorqueSafe) {n : StationNumber} {e : PeerEntry} (hn : n ≠ 0)
    (hown : n ≠ s.ssv.ownNumber) (he : e.Legal s.config.silenceTimeout)
    (hunheard : s.ssv.mode = .unconfigured → e = .cleared) : (s.withEntry n e).TorqueSafe :=
  hs.withTable (hs.table.withEntry hn hown he hunheard)

theorem State.TorqueSafe.deliverDemand (hs : s.TorqueSafe) (h : FrameHeader) (p : DemandPayload) :
    (s.deliverDemand h p).TorqueSafe := by
  unfold State.deliverDemand
  split
  · exact hs
  · rename_i hmode
    split
    · exact hs.countMisplaced
    · rename_i c hc
      unfold State.applyDemand
      split
      · exact hs
      · have haccepted := DemandRecord.accept_legal (screenDemand_range hc) h.seq s.config.demandTimeout
        exact (hs.withTable (hs.table.withDemand haccepted hmode)).notifyTable ..

theorem State.TorqueSafe.expireDemand (hs : s.TorqueSafe) (hrun : s.ptb.demand.timer.isRunning = true) :
    { s with ptb := { s.ptb with demand := s.ptb.demand.expire } : State }.TorqueSafe := by
  have hfresh := hs.table.demand.fresh_of_running hrun
  refine hs.withTable (hs.table.withDemand (hs.table.demand.expire hfresh) fun hmode => ?_)
  rw [(hs.table.unheard hmode).1] at hfresh
  cases hfresh

theorem State.TorqueSafe.fallSilent (hs : s.TorqueSafe) {n : StationNumber}
    (hrun : (s.ptb.entry n).silenceTimer.isRunning = true) :
    (s.withEntry n (s.ptb.entry n).fallSilent).TorqueSafe := by
  have hheard : s.ptb.entry n ≠ .cleared := fun hclear => by
    rw [hclear] at hrun
    cases hrun
  refine hs.withEntry (fun hn => hheard ?_) (fun hn => hheard ?_) (hs.table.peers n).fallSilent (fun hmode => absurd ?_ hheard)
  · rw [hn]
    exact hs.table.self.1
  · rw [hn]
    exact hs.table.self.2
  · exact (hs.table.unheard hmode).2 n

theorem motorSender_eq_some {h : FrameHeader} {n : StationNumber} (hn : motorSender h = some n) :
    n ≠ 0 ∧ h.sender.toNat = n.val := by
  unfold motorSender senderStation at hn
  split at hn
  · rename_i k hk
    split at hk
    · cases hk
      split at hn
      · cases hn
      · rename_i hne
        cases hn
        exact ⟨hne, rfl⟩
    · cases hk
  · cases hn

theorem motorSender_ne_own {h : FrameHeader} {n own : StationNumber} (hn : motorSender h = some n)
    (hown : ¬sentBy h own = true) : n ≠ own := by
  rintro rfl
  exact hown (by simp [sentBy, (motorSender_eq_some hn).2])

theorem State.TorqueSafe.applyStatus (hs : s.TorqueSafe) {n : StationNumber} (hn : n ≠ 0) (hown : n ≠ s.ssv.ownNumber)
    (hmode : s.ssv.mode ≠ .unconfigured) (seq : Seq) {c : StatusContent} (hc : c.Legal) :
    (s.applyStatus n seq c).TorqueSafe := by
  unfold State.applyStatus
  extract_lets before moved difference
  have hmoved : moved.Legal s.config.silenceTimeout := (hs.table.peers n).applyStatus seq hc
  have hchecked := hmoved.checkDiscord (difference := difference) s.config.discordBand discordDifference_isSome
  exact ((hs.withEntry hn hown hchecked fun h => absurd h hmode).notifyTable ..).notifyTable ..

theorem State.TorqueSafe.deliverStatus (hs : s.TorqueSafe) (h : FrameHeader) (p : StatusPayload) :
    (s.deliverStatus h p).TorqueSafe := by
  unfold State.deliverStatus
  split
  · exact hs
  · split
    · exact hs.classA _
    · split
      · rename_i hmode hown _ _ n c hn hc
        exact hs.applyStatus (motorSender_eq_some hn).1 (motorSender_ne_own hn hown) hmode _ (readStatus_legal hc)
      · exact hs.countMisplaced

theorem State.TorqueSafe.deliverSlipAlert (hs : s.TorqueSafe) (h : FrameHeader) (p : SlipAlertPayload) :
    (s.deliverSlipAlert h p).TorqueSafe := by
  unfold State.deliverSlipAlert
  split
  · exact hs
  · split
    · exact hs.classA _
    · split
      · rename_i hmode hown _ _ n a hn ha
        have happlied := (hs.table.peers n).applySlipAlert h.seq (readSlipAlert_legal ha)
        exact hs.withEntry (motorSender_eq_some hn).1 (motorSender_ne_own hn hown) happlied fun hu => absurd hu hmode
      · exact hs.countMisplaced

theorem State.TorqueSafe.deliverFault (hs : s.TorqueSafe) (h : FrameHeader) (p : FaultPayload) :
    (s.deliverFault h p).TorqueSafe := by
  unfold State.deliverFault
  split
  · exact hs
  · split
    · exact hs.classA _
    · split
      · rename_i hmode hown _ _ n cause hn hcause
        have happlied := (hs.table.peers n).applyFault h.seq cause
        exact (hs.withEntry (motorSender_eq_some hn).1 (motorSender_ne_own hn hown) happlied
          fun hu => absurd hu hmode).notifyTable ..
      · exact hs.countMisplaced

/-! ## The Slip Monitor (R119 to R139, R38) -/

/-- A slip cap no stricter than before: lifted, kept or raised (R123, R138). -/
def SlipCapLoosened (before after : Option SlipCap) : Prop :=
  ∀ k, after = some k → ∃ j, before = some j ∧ j.sense = k.sense ∧ j.magnitude ≤ k.magnitude

theorem SlipCapLoosened.kept (cap : Option SlipCap) : SlipCapLoosened cap cap := fun k hk => ⟨k, hk, rfl, le_rfl⟩

theorem SlipCapLoosened.lifted (cap : Option SlipCap) : SlipCapLoosened cap none := fun k hk => by cases hk

/-- The effective cap does not fall as a slip cap is loosened (R30). -/
theorem CommandStage.effectiveCap_le_of_loosened (c : CommandStage) {before after : Option SlipCap}
    (h : SlipCapLoosened before after) (sagCap : Nat) : c.effectiveCap before sagCap ≤ c.effectiveCap after sagCap := by
  by_cases hs : c.sense = .none
  · rw [c.effectiveCap_no_sense hs]
    exact Nat.zero_le _
  · obtain ⟨hcap, hslip, hsag⟩ := (c.le_effectiveCap_iff hs before sagCap _).mp le_rfl
    refine (c.le_effectiveCap_iff hs after sagCap _).mpr ⟨hcap, fun k hk hsense => ?_, hsag⟩
    obtain ⟨j, hj, hjk, hle⟩ := h k hk
    exact (hslip j hj (hjk.trans hsense)).trans hle

theorem State.TorqueSafe.withMonitor (hs : s.TorqueSafe) {m : Monitor} (hm : { s with slm := m : State }.MonitorSafe)
    (hcap : SlipCapLoosened s.slm.slipCap m.slipCap) : { s with slm := m : State }.TorqueSafe where
  config := hs.config.congr id rfl rfl
  table := hs.table.congr id rfl rfl rfl
  monitor := hm
  engine := hs.engine.congr id rfl rfl
  command := hs.command.congr rfl rfl rfl rfl rfl (s.cms.effectiveCap_le_of_loosened hcap _)

theorem Monitor.startSettling_slipCap (m : Monitor) (settleTime : Nat) : (m.startSettling settleTime).slipCap = m.slipCap := by
  unfold Monitor.startSettling
  split <;> rfl

theorem Monitor.startSettling_lastSense (m : Monitor) (settleTime : Nat) :
    (m.startSettling settleTime).lastSense = m.lastSense := by
  unfold Monitor.startSettling
  split <;> rfl

theorem Monitor.startSettling_on (m : Monitor) (settleTime : Nat) : (m.startSettling settleTime).state ≠ .off := by
  unfold Monitor.startSettling
  split
  · simp only [Monitor.settleExpiry, if_true]
    split <;> simp
  · simp

theorem Monitor.finishRecovery_slipCap (m : Monitor) : m.finishRecovery.slipCap = m.slipCap := by
  unfold Monitor.finishRecovery
  split <;> rfl

theorem Monitor.takeSense_on {m : Monitor} (hon : m.state ≠ .off) (sense : Sense) (settleTime : Nat) :
    (m.takeSense sense settleTime).state ≠ .off := by
  unfold Monitor.takeSense
  split
  · exact hon
  · exact Monitor.startSettling_on _ _

theorem Monitor.takeSense_lastSense (m : Monitor) (sense : Sense) (settleTime : Nat) :
    (m.takeSense sense settleTime).lastSense = sense := by
  unfold Monitor.takeSense
  split
  · exact Eq.symm ‹_›
  · exact Monitor.startSettling_lastSense _ _

theorem Monitor.takeSense_slipCap (m : Monitor) (sense : Sense) (settleTime : Nat) :
    SlipCapLoosened m.slipCap (m.takeSense sense settleTime).slipCap := by
  unfold Monitor.takeSense
  split
  · exact .kept _
  · rw [Monitor.changeSense, Monitor.startSettling_slipCap]
    exact .lifted _

theorem Monitor.filter_frame (m : Monitor) (ref : Option Nat) (interval : Nat) :
    (m.filter ref interval).state = m.state ∧ (m.filter ref interval).lastSense = m.lastSense ∧
      (m.filter ref interval).slipCap = m.slipCap := by
  unfold Monitor.filter
  split
  · exact ⟨rfl, rfl, rfl⟩
  · split <;> exact ⟨rfl, rfl, rfl⟩

theorem mem_of_mem_candidates {e : PeerEntry} {es : List PeerEntry} (h : e ∈ candidates es) : e ∈ es := by
  unfold candidates at h
  extract_lets sharing first at h
  split at h
  · exact List.mem_of_mem_filter h
  · exact List.mem_of_mem_filter (List.mem_of_mem_filter h)

/-- A reference speed is the axle speed of a peer entry (R124, R125). -/
theorem referenceSpeed_mem {sense : Sense} {es : List PeerEntry} {v : Nat} (h : referenceSpeed sense es = some v) :
    ∃ e ∈ es, e.axleSpeed = v := by
  have hmem : v ∈ (candidates es).map (·.axleSpeed) := by
    unfold referenceSpeed at h
    extract_lets speeds at h
    split at h
    · exact List.max?_mem h
    · exact List.min?_mem h
  obtain ⟨e, he, hv⟩ := List.mem_map.mp hmem
  exact ⟨e, mem_of_mem_candidates he, hv⟩

theorem State.TableSafe.reference_le (hs : s.TableSafe) {v : Nat} (h : s.reference = some v) : v ≤ 65535 := by
  obtain ⟨e, he, rfl⟩ := referenceSpeed_mem h
  obtain ⟨n, -, rfl⟩ := List.mem_map.mp he
  exact (hs.peers n).axleSpeed

/-- What the first half of a sample leaves: a safe state whose running monitor has read the sense in force (R122, R123,
R126). -/
theorem State.TorqueSafe.senseAndFilter (hs : s.TorqueSafe) (hon : s.slm.state ≠ .off) :
    { s with slm := s.senseAndFilter : State }.TorqueSafe ∧ s.senseAndFilter.state ≠ .off ∧
      s.senseAndFilter.lastSense = s.spe.inForce.sense := by
  unfold State.senseAndFilter
  rw [hs.monitor.restartSample hon]
  have hsensed := hs.monitor.takeSense hon s.spe.inForce.sense
  have hrunning := Monitor.takeSense_on hon s.spe.inForce.sense s.config.settleTime
  obtain ⟨hstate, hsense, hcap⟩ := (s.slm.takeSense s.spe.inForce.sense s.config.settleTime).filter_frame s.reference
    s.config.slipSampleInterval
  refine ⟨hs.withMonitor (hsensed.filter hrunning (fun v => hs.table.reference_le) _) ?_, ?_, ?_⟩
  · rw [hcap]
    exact s.slm.takeSense_slipCap _ _
  · rw [hstate]
    exact hrunning
  · rw [hsense, Monitor.takeSense_lastSense]

theorem State.TorqueSafe.cap_le (hs : s.TorqueSafe) (sense : Sense) : s.cms.caps.ofSense sense ≤ 8000 := by
  rw [hs.command.caps]
  cases sense with
  | none => exact Nat.zero_le _
  | propulsive => exact hs.engine.caps.1
  | retarding => exact hs.engine.caps.2

theorem State.TorqueSafe.held_le (hs : s.TorqueSafe) : s.cms.held.natAbs ≤ 8000 := by
  by_cases hsense : s.cms.sense = .none
  · have hcap := hs.command.cap
    rw [s.cms.effectiveCap_no_sense hsense] at hcap
    exact hcap.trans (Nat.zero_le _)
  · exact ((s.cms.le_effectiveCap_iff hsense ..).mp hs.command.cap).1.trans (hs.cap_le _)

/-- The held command clamped to a new slip cap of the sense in force, the other caps kept (R38). -/
theorem State.CommandSafe.slipCapSet (hs : s.CommandSafe) (hmode : s.ssv.mode = .sharing) (hsense : s.cms.sense ≠ .none)
    {cap : SlipCap} (hcap : cap.sense = s.cms.sense) (hslm : t.slm.slipCap = some cap)
    (hcms : t.cms = s.cms.slipCapSet s.config cap) (hsharing : t.ssv.mode = s.ssv.mode)
    (hconfig : t.config = s.config) (hspe : t.spe = s.spe) : t.CommandSafe := by
  have hheld : heldAfterSlipCap s.cms cap = clampMagnitude s.cms.held cap.magnitude := if_pos hcap
  obtain ⟨hforce, -, hsag⟩ := (s.cms.le_effectiveCap_iff hsense ..).mp hs.cap
  constructor <;> rw [hcms]
  case caps => rw [hspe]; exact hs.caps
  case sense => rw [hspe]; exact hs.sense
  case gripMode => rw [hspe]; exact hs.gripMode
  case sharing => exact fun hout => absurd (hsharing.trans hmode) hout
  case sign =>
    intro hne
    have hne' : clampMagnitude s.cms.held cap.magnitude ≠ 0 := hheld ▸ hne
    have hne0 : s.cms.held ≠ 0 := by
      rintro h0
      exact hne' (Int.natAbs_eq_zero.mp (by simp [h0]))
    rw [hspe]
    change (heldAfterSlipCap s.cms cap < 0 ↔ _) ∧ _
    rw [hheld, clampMagnitude_neg_iff hne']
    exact hs.sign hne0
  case cap =>
    change (heldAfterSlipCap s.cms cap).natAbs ≤ _
    rw [hheld, clampMagnitude_natAbs, hslm, hconfig]
    refine (CommandStage.le_effectiveCap_iff hsense ..).mpr
      ⟨(Nat.min_le_left ..).trans hforce, fun k hk _ => ?_, fun h1 h2 => (Nat.min_le_left ..).trans (hsag h1 h2)⟩
    cases hk
    exact Nat.min_le_right ..
  case motor => rw [hconfig]; rfl

theorem State.TorqueSafe.slipEvent (hs : s.TorqueSafe) (hon : s.slm.state ≠ .off) (hsettled : s.slm.state ≠ .settling)
    (hlast : s.slm.lastSense = s.spe.inForce.sense) (hsense : s.spe.inForce.sense ≠ .none) (slip : Nat) :
    (s.slipEvent s.slm slip).TorqueSafe := by
  have hsharing := hs.monitor.sharing hon
  have hrange := (hs.config (by simp [State.configured, hsharing])).1
  have hmonitor := hs.monitor.slipEvent hon hsettled hrange.recoveryStep.2 hs.held_le (hlast ▸ hsense)
  rw [hlast] at hmonitor
  have hcommand : { s with
      slm := s.slm.slipEvent s.config s.spe.inForce.sense s.cms.held, cms := s.commandAfterSlip : State }.CommandSafe := by
    by_cases hw : s.config.withdrawOnSlip = true
    · have hcap : (newSlipCap s.config.recoveryStep s.cms.held s.spe.inForce.sense).sense = s.cms.sense :=
        hs.command.sense.symm
      exact hs.command.slipCapSet hsharing (hs.command.sense ▸ hsense) hcap (if_pos hw) (if_pos hw) rfl rfl rfl
    · have hkept : (s.slm.slipEvent s.config s.spe.inForce.sense s.cms.held).slipCap = s.slm.slipCap := if_neg hw
      exact hs.command.congr rfl rfl rfl rfl (if_neg hw)
        (s.cms.effectiveCap_le_of_loosened (by simp only [hkept]; exact .kept _) _)
  have hevent : { s with
      slm := s.slm.slipEvent s.config s.spe.inForce.sense s.cms.held, cms := s.commandAfterSlip : State }.TorqueSafe :=
    { config := hs.config.congr id rfl rfl
      table := hs.table.congr id rfl rfl rfl
      monitor := hmonitor.congr rfl rfl rfl
      engine := hs.engine.congr id rfl rfl
      command := hcommand }
  exact ((hevent.withScheduler _).notify ..).move

/-- A sample judged by a settled monitor that has read a sense (R131 to R136). -/
theorem State.TorqueSafe.judge (hs : s.TorqueSafe) (hon : s.slm.state ≠ .off) (hsettled : s.slm.state ≠ .settling)
    (hlast : s.slm.lastSense = s.spe.inForce.sense) (hsense : s.spe.inForce.sense ≠ .none) {slip : Nat}
    (hslip : slip ≤ 1000) : (s.judge s.slm slip).TorqueSafe := by
  have hbound := (hs.config (by simp [State.configured, hs.monitor.sharing hon])).1.confirmNumber.2
  unfold State.judge
  split
  · split
    · exact hs.slipEvent hon hsettled hlast hsense slip
    · rename_i hshort
      exact hs.withMonitor (hs.monitor.countSlip hon hsettled hbound (Nat.not_le.mp hshort)) (.kept _)
  · exact hs.withMonitor (hs.monitor.quietSlip hon hslip) (.kept _)

theorem Monitor.not_blocked {m : Monitor} {cfg : Setup} {sense : Sense} {ref : Option Nat} {limited : Bool}
    (h : ¬m.blocked cfg sense ref limited = true) : m.state ≠ .settling ∧ sense ≠ .none := by
  cases ref with
  | none => exact absurd rfl h
  | some v =>
    simp only [Monitor.blocked, Bool.or_eq_true, beq_iff_eq, not_or] at h
    obtain ⟨⟨⟨hsettled, hsense⟩, -⟩, -⟩ := h
    exact ⟨hsettled, hsense⟩

theorem State.TorqueSafe.sample (hs : s.TorqueSafe) (hon : s.slm.state ≠ .off) : s.sample.TorqueSafe := by
  obtain ⟨hsensed, hrunning, hlast⟩ := hs.senseAndFilter hon
  have hblocked : { s with slm := s.senseAndFilter.block : State }.TorqueSafe :=
    hsensed.withMonitor (hsensed.monitor.block hrunning) (.kept _)
  unfold State.sample
  extract_lets m
  split
  · exact hblocked
  · split
    · exact hblocked
    · rename_i hfree
      obtain ⟨hsettled, hsense⟩ := Monitor.not_blocked hfree
      exact hsensed.judge hrunning hsettled hlast hsense (slipOf_le ..)

theorem State.TorqueSafe.afterRecovery (hs : s.TorqueSafe) {m : Monitor}
    (hm : { s with slm := m.finishRecovery : State }.MonitorSafe) (hcap : SlipCapLoosened s.slm.slipCap m.slipCap) :
    (s.afterRecovery m).TorqueSafe := by
  have hfinished : { s with slm := m.finishRecovery : State }.TorqueSafe :=
    hs.withMonitor hm (by rw [Monitor.finishRecovery_slipCap]; exact hcap)
  unfold State.afterRecovery
  split
  · exact hfinished.notify ..
  · exact hfinished

theorem Monitor.capStep_slipCap (m : Monitor) (step interval : Nat) (caps : Caps) :
    SlipCapLoosened m.slipCap (m.capStep step interval caps).slipCap := by
  unfold Monitor.capStep
  split
  · exact .kept _
  · rename_i c hc
    split
    · exact .lifted _
    · intro k hk
      cases hk
      exact ⟨c, hc, rfl, Nat.le_add_right ..⟩

/-! ## What is sent at the start of an exchange (R50, R65, R159, R165) -/

theorem State.TorqueSafe.sendState (hs : s.TorqueSafe) : s.sendState.TorqueSafe :=
  (hs.withWheels s.timebase s.wcu.clearRejected).withPort rfl

theorem State.TorqueSafe.sendNotice (hs : s.TorqueSafe) : s.sendNotice.TorqueSafe := by
  unfold State.sendNotice
  split
  · exact hs.withPort rfl
  · exact hs.withPort rfl

theorem State.TorqueSafe.sendPeerView (hs : s.TorqueSafe) (n : StationNumber) : (s.sendPeerView n).TorqueSafe := by
  unfold State.sendPeerView
  split
  · exact hs.withPort rfl
  · rename_i hn
    split
    · exact ((hs.withMonitor hs.monitor.clearEvents (.kept _)).withLink _).withPort rfl
    · rename_i hown
      have hviewed : (s.withEntry n { s.ptb.entry n with gaps := 0 }).TorqueSafe :=
        hs.withEntry hn hown (hs.table.peers n).clearGaps fun hmode => by
          rw [(hs.table.unheard hmode).2 n]
          rfl
      exact hviewed.withPort rfl

theorem State.TorqueSafe.sendReply (hs : s.TorqueSafe) (r : Reply) : (s.sendReply r).TorqueSafe := by
  have hemptied : { s with lpt := { s.lpt with reply := none } : State }.TorqueSafe := hs.withPort rfl
  cases r with
  | ack k => exact hemptied.withPort rfl
  | refuse k reason i => exact hemptied.withPort rfl
  | notice => exact hemptied.sendNotice
  | peerView n => exact hemptied.sendPeerView n

end

end Sys2Proof.Machine
end

section
/-! PROOFS. Every command keeps the torque safe (O60). -/

namespace Sys2Proof.Machine

/-! ## Outcomes that keep the torque safe -/

/-- Every state an outcome leads to is safe. -/
def TorqueKept (o : Host.Outcome State Fault Refusal) : Prop := ∀ t, o = .next t → t.TorqueSafe

theorem TorqueKept.next {t : State} (h : t.TorqueSafe) : TorqueKept (.next t) := by
  rintro _ ⟨⟩
  exact h

/-- A command that acts only where its event can occur (log 2). -/
theorem TorqueKept.guarded {s t : State} {p : Prop} [Decidable p] (hs : s.TorqueSafe) (ht : p → t.TorqueSafe) :
    TorqueKept (if p then .next t else .next s) := by
  split
  · exact .next (ht ‹_›)
  · exact .next hs

section
variable {s : State} (hs : s.TorqueSafe)
include hs

/-! ## Exchanges and records -/

theorem execExchangeStart_kept : TorqueKept (execExchangeStart s) := by
  unfold execExchangeStart
  split
  · exact .next hs
  · split
    · exact .next (hs.sendReply _)
    · exact .next hs.sendState

theorem execSetup_kept (r : SetupRecord) : TorqueKept (execSetup r s) := by
  unfold execSetup
  split
  · split
    · exact .next (hs.endExchange.refuse ..)
    · rename_i hmode
      split
      · exact .next (hs.endExchange.refuse ..)
      · rename_i hown
        split
        · exact .next (hs.endExchange.refuse ..)
        · rename_i hrange
          exact .next (hs.endExchange.acceptSetup (not_not.mp hmode) hown (storedSetup_inRange hrange))
  · exact .next hs

theorem execMeasure_kept (r : MeasureRecord) : TorqueKept (execMeasure r s) := by
  unfold execMeasure
  split
  · split
    · exact .next (hs.endExchange.refuse ..)
    · rename_i hmode
      exact .next (hs.endExchange.acceptMeasure hmode r)
  · exact .next hs

theorem execReadPeer_kept (station : Byte) : TorqueKept (execReadPeer station s) := by
  unfold execReadPeer
  split
  · split
    · exact .next (hs.endExchange.place _)
    · exact .next (hs.endExchange.refuse ..)
  · exact .next hs

theorem execSafeRequest_kept : TorqueKept (execSafeRequest s) := by
  unfold execSafeRequest
  split
  · split
    · exact .next (hs.endExchange.refuse ..)
    · exact .next ((hs.endExchange.classA _).place _)
  · exact .next hs

theorem execResume_kept : TorqueKept (execResume s) := by
  unfold execResume
  split
  · split
    · exact .next (hs.endExchange.refuse ..)
    · rename_i hmode
      split
      · exact .next (hs.endExchange.refuse ..)
      · exact .next ((hs.endExchange.resumeJoin (not_not.mp hmode)).place _)
  · exact .next hs

theorem execLinkResetRequest_kept : TorqueKept (execLinkResetRequest s) := by
  unfold execLinkResetRequest
  split
  · split
    · exact .next (hs.endExchange.refuse ..)
    · split
      · exact .next (hs.endExchange.refuse ..)
      · exact .next (State.TorqueSafe.place (hs.endExchange.withLink _) _)
  · exact .next hs

/-! ## The share link -/

theorem State.TorqueSafe.winClaim (f : TransmitFrame) : (s.winClaim f).TorqueSafe := by
  unfold State.winClaim
  split
  · exact hs.withLink _
  · exact hs.congr ⟨rfl, rfl, rfl, rfl, rfl, rfl, rfl, rfl⟩

theorem execClaimWon_kept : TorqueKept (execClaimWon s) := by
  unfold execClaimWon
  split
  · exact .guarded hs fun _ => hs.winClaim _
  · exact .next hs

theorem execClaimLost_kept (slot : Fin 16) : TorqueKept (execClaimLost slot s) := by
  unfold execClaimLost
  split
  · exact .guarded hs fun _ => hs.withLink _
  · exact .next hs

theorem execFrameSent_kept : TorqueKept (execFrameSent s) := by
  unfold execFrameSent
  split
  · exact .guarded hs fun _ => ((hs.withLink s.slc.sent).reportSent _).move
  · exact .next hs

theorem execEchoCheckFailed_kept : TorqueKept (execEchoCheckFailed s) := by
  unfold execEchoCheckFailed
  split
  · split
    · split
      · exact .next (hs.withLink _)
      · exact .next (hs.dropFrame _)
    · exact .next hs
  · exact .next hs

theorem execLinkResetSeen_kept : TorqueKept (execLinkResetSeen s) := by
  unfold execLinkResetSeen
  split
  · exact .next hs
  · exact .next hs.linkReset

/-! ## Timers and computations -/

theorem execMeasureTimerExpiry_kept : TorqueKept (execMeasureTimerExpiry s) := by
  have hrestarted : { s with
      ssv := { s.ssv with measureTimer := .running s.config.measureTimeout } : State }.TorqueSafe :=
    hs.withSupervisor rfl rfl
  exact .guarded hs fun _ => hrestarted.measureExpired

theorem execInterimTimerExpiry_kept : TorqueKept (execInterimTimerExpiry s) := by
  unfold execInterimTimerExpiry
  split
  · exact .next (hs.withPort rfl)
  · exact .next hs
  · exact .next hs

theorem execComputationCompletion_kept : TorqueKept (execComputationCompletion s) := by
  unfold execComputationCompletion
  split
  · exact .next (hs.complete ‹_› ‹_›)
  · exact .next hs
  · exact .next hs

theorem execSlipSample_kept : TorqueKept (execSlipSample s) :=
  .guarded hs fun h => by
    simp only [Bool.and_eq_true, bne_iff_ne] at h
    exact hs.sample h.2

theorem execGripRecoveryExpiry_kept : TorqueKept (execGripRecoveryExpiry s) :=
  .guarded hs fun hrun => hs.afterRecovery (hs.monitor.gripStep hrun) (.kept _)

theorem execCapRecoveryExpiry_kept : TorqueKept (execCapRecoveryExpiry s) :=
  .guarded hs fun hrun => by
    have hcaps : s.cms.caps.prop ≤ 8000 ∧ s.cms.caps.ret ≤ 8000 := ⟨hs.cap_le .propulsive, hs.cap_le .retarding⟩
    exact hs.afterRecovery (hs.monitor.capStep hrun hcaps) (s.slm.capStep_slipCap _ _ _)

/-- Every command keeps the torque safe. -/
theorem exec_torqueKept (i : Instr) : TorqueKept (exec i s) := by
  cases i with
  | partReset powerOn stn0 stn1 stn2 => exact .next (State.afterReset_torqueSafe ..)
  | exchangeStart => exact execExchangeStart_kept hs
  | shortExchange wholeBytes => exact .guarded hs fun _ => hs.endExchange.place _
  | checkByteFail => exact .guarded hs fun _ => hs.endExchange.place _
  | unknownRecordKind code => exact .guarded hs fun _ => hs.endExchange.place _
  | setup r => exact execSetup_kept hs r
  | measure r => exact execMeasure_kept hs r
  | takeNotice => exact .guarded hs fun _ => hs.endExchange.place _
  | readPeer station => exact execReadPeer_kept hs station
  | safeRequest => exact execSafeRequest_kept hs
  | resume => exact execResume_kept hs
  | linkResetRequest => exact execLinkResetRequest_kept hs
  | nop => exact .guarded hs fun _ => hs.endExchange
  | windowStart => exact .guarded hs fun _ => hs.withLink _
  | claimWon => exact execClaimWon_kept hs
  | claimLost slot => exact execClaimLost_kept hs slot
  | frameStart => exact .guarded hs fun _ => hs.withLink _
  | busFreeTime => exact .guarded hs fun _ => (hs.withLink _).move
  | demandFrame h p => exact .guarded hs fun _ => hs.endReception.deliverDemand h p
  | statusFrame h p => exact .guarded hs fun _ => hs.endReception.deliverStatus h p
  | slipAlertFrame h p => exact .guarded hs fun _ => hs.endReception.deliverSlipAlert h p
  | faultFrame h p => exact .guarded hs fun _ => hs.endReception.deliverFault h p
  | receiveError cause => exact .guarded hs fun _ => hs.withLink _
  | frameSent => exact execFrameSent_kept hs
  | echoCheckFailed => exact execEchoCheckFailed_kept hs
  | resetDriveBegin => exact .guarded hs fun _ => hs.withLink _
  | linkResetSeen => exact execLinkResetSeen_kept hs
  | resetDriveRelease => exact .guarded hs fun _ => (hs.withLink _).move
  | resettingReleased => exact .guarded hs fun _ => hs.withLink _
  | publishTimerExpiry => exact .guarded hs fun _ => (hs.withScheduler _).move
  | demandTimerExpiry => exact .guarded hs fun hrun => (hs.expireDemand hrun).notifyTable ..
  | silenceTimerExpiry peer => exact .guarded hs fun hrun => (hs.fallSilent hrun).notifyTable ..
  | measureTimerExpiry => exact execMeasureTimerExpiry_kept hs
  | computationCompletion => exact execComputationCompletion_kept hs
  | toothEdge ch time => exact .guarded hs fun _ => hs.withWheels _ _
  | stopTimerExpiry ch => exact .guarded hs fun _ => hs.withWheels _ _
  | slipSample => exact execSlipSample_kept hs
  | settleTimerExpiry => exact .guarded hs fun _ => hs.withMonitor hs.monitor.settleExpiry (.kept _)
  | gripRecoveryExpiry => exact execGripRecoveryExpiry_kept hs
  | capRecoveryExpiry => exact execCapRecoveryExpiry_kept hs
  | interimTimerExpiry => exact execInterimTimerExpiry_kept hs
  | millisecondTick => exact .next (hs.withPort rfl)

end

/-- Settles O60: the command at the front keeps the torque safe, and so does idling. -/
theorem torqueStaysSafe : Obligations.TorqueStaysSafe := by
  unfold Obligations.TorqueStaysSafe
  intro s t hs hstep
  unfold step at hstep
  split at hstep
  · rename_i i rest _
    exact exec_torqueKept (hs.withPending rest) i t hstep
  · cases hstep
    exact hs

end Sys2Proof.Machine
end

section
/-! PROOFS. What the Peer Table reads of a received frame (R45, R46, R52, R59). -/

namespace Sys2Proof.Machine

/-! ## Codes (10.4) -/

@[simp] theorem Health.ofCode_code (x : Health) : Health.ofCode x.code = some x := by cases x <;> rfl

@[simp] theorem FaultCause.ofCode_code (x : FaultCause) : FaultCause.ofCode x.code = some x := by cases x <;> rfl

theorem Direction.ofCode_eq_none {n : Nat} (h : 1 < n) : Direction.ofCode n = none := by
  rw [ofCode, if_neg (by omega), if_neg (by omega)]

theorem GripMode.ofCode_eq_none {n : Nat} (h : 1 < n) : GripMode.ofCode n = none := by
  rw [ofCode, if_neg (by omega), if_neg (by omega)]

theorem Sense.ofAlertCode_eq_none {n : Nat} (h : n = 0 ∨ 3 ≤ n) : Sense.ofAlertCode n = Option.none := by
  rw [ofAlertCode, if_neg (by omega), if_neg (by omega)]

theorem FaultCause.ofCode_eq_none {n : Nat} (h : n = 0 ∨ 5 ≤ n) : FaultCause.ofCode n = none := by
  rw [ofCode, if_neg (by omega), if_neg (by omega), if_neg (by omega), if_neg (by omega)]

theorem Direction.ofCode_toNat {d : BitVec 4} (h : d.toNat ≤ 1) :
    Direction.ofCode d.toNat = some (if d = 0 then .forward else .reverse) := by
  by_cases h0 : d = 0
  · rw [h0]
    rfl
  · have h1 : d.toNat = 1 := by bv_omega
    rw [if_neg h0, h1]
    rfl

theorem GripMode.ofCode_toNat {g : BitVec 4} (h : g.toNat ≤ 1) :
    GripMode.ofCode g.toNat = some (if g = 0 then .normal else .lowGrip) := by
  by_cases h0 : g = 0
  · rw [h0]
    rfl
  · have h1 : g.toNat = 1 := by bv_omega
    rw [if_neg h0, h1]
    rfl

/-! ## Senders (R45, R81) -/

section
variable {h : FrameHeader} {n : StationNumber}

theorem sentBy_iff : sentBy h n = true ↔ h.sender.toNat = n.val := by simp [sentBy]

theorem motorSender_of_station (hn : h.sender.toNat = n.val) (h0 : n ≠ 0) : motorSender h = some n := by
  have hlt : h.sender.toNat < 8 := hn ▸ n.isLt
  have hstation : senderStation h = some n := by
    rw [senderStation, dif_pos hlt]
    exact congrArg some (Fin.ext hn)
  simp only [motorSender, hstation, if_neg h0]

/-- No motor station has number 0 or a number above 7. -/
theorem motorSender_eq_none (hout : h.sender = 0 ∨ 8 ≤ h.sender.toNat) : motorSender h = none := by
  cases hn : motorSender h with
  | none => rfl
  | some n =>
    obtain ⟨hne, hval⟩ := motorSender_eq_some hn
    rcases hout with h0 | h8
    · rw [h0] at hval
      exact absurd (Fin.ext hval.symm) hne
    · have := n.isLt
      omega

end

/-! ## Contents -/

/-- What a DEMAND with defined codes brings, its demand clamped (R46). -/
def demandContent (p : DemandPayload) : DemandContent where
  demand := clampInt (-16000) 16000 p.demand.toInt
  direction := if p.direction = 0 then .forward else .reverse
  gripMode := if p.gripMode = 0 then .normal else .lowGrip

/-- What a STATUS with this health stores, its fields clamped (R52). -/
def statusContent (p : StatusPayload) (health : Health) : StatusContent where
  health := health
  propCap := clampTop 8000 p.propCap.toNat
  retCap := clampTop 8000 p.retCap.toNat
  weight := clampTop 1000 p.weight.toNat
  axleSpeed := p.axleSpeed.toNat
  reported := clampInt (-8000) 8000 p.held.toInt
  demandSeq := if p.noDemand then none else some p.demandSeq
  rateLimited := p.rateLimited
  slipActive := p.slipActive
  grip := clampNat 4 16 p.grip.toNat

/-- What a SLIP ALERT of this sense stores, its fields clamped (R59). -/
def alertContent (p : SlipAlertPayload) (sense : Sense) : SlipAlert where
  sense := sense
  newCap := clampTop 8000 p.newCap.toNat
  newWeight := clampTop 1000 p.newWeight.toNat
  slip := clampTop 1000 p.slip.toNat

theorem screenDemand_accepted {h : FrameHeader} {p : DemandPayload} (h0 : h.sender = 0) (hd : p.direction.toNat ≤ 1)
    (hg : p.gripMode.toNat ≤ 1) : screenDemand h p = some (demandContent p) := by
  have hsender : h.sender.toNat = 0 := by simp [h0]
  simp only [screenDemand, Direction.ofCode_toNat hd, GripMode.ofCode_toNat hg]
  exact if_neg (not_not.mpr hsender)

theorem screenDemand_misplaced {h : FrameHeader} {p : DemandPayload}
    (hbad : h.sender ≠ 0 ∨ 1 < p.direction.toNat ∨ 1 < p.gripMode.toNat) : screenDemand h p = none := by
  unfold screenDemand
  split
  · rfl
  · rename_i hsender
    rcases hbad with hbad | hbad | hbad
    · exact absurd (fun h0 => hbad (BitVec.eq_of_toNat_eq h0)) hsender
    · rw [Direction.ofCode_eq_none hbad]
    · rw [GripMode.ofCode_eq_none hbad]
      cases Direction.ofCode p.direction.toNat <;> rfl

theorem readStatus_eq (p : StatusPayload) : readStatus p = (Health.ofCode p.health.toNat).map (statusContent p) := by
  unfold readStatus
  cases Health.ofCode p.health.toNat <;> rfl

theorem readSlipAlert_eq (p : SlipAlertPayload) :
    readSlipAlert p = (Sense.ofAlertCode p.sense.toNat).map (alertContent p) := by
  unfold readSlipAlert
  cases Sense.ofAlertCode p.sense.toNat <;> rfl

theorem readStatus_health {p : StatusPayload} {health : Health} (hp : p.health.toNat = health.code) :
    readStatus p = some (statusContent p health) := by
  rw [readStatus_eq, hp, Health.ofCode_code]
  rfl

theorem readSlipAlert_propulsive {p : SlipAlertPayload} (hp : p.sense = 1) :
    readSlipAlert p = some (alertContent p .propulsive) := by
  rw [readSlipAlert_eq, hp]
  rfl

theorem readSlipAlert_retarding {p : SlipAlertPayload} (hp : p.sense = 2) :
    readSlipAlert p = some (alertContent p .retarding) := by
  rw [readSlipAlert_eq, hp]
  rfl

end Sys2Proof.Machine
end

section
/-! PROOFS. The frames a station hears: discarded, a clash, misplaced or applied (R44, R45, R80, R81), and the DEMAND (R46). -/

namespace Sys2Proof.Machine

/-! ## A frame heard (R79, R80) -/

theorem LinkController.hears_of {c : LinkController} (hline : c.line = .frame) (hreception : c.reception = .receiving)
    (hclaim : c.claim ≠ .sending) : c.hears = true := by
  simp [hears, hline, hreception, hclaim]

section
variable {s : State} (hs : s.slc.hears = true) (h : FrameHeader)
include hs

theorem exec_demandFrame (p : DemandPayload) :
    exec (.demandFrame h p) s = .next (s.endReception.deliverDemand h p) := if_pos hs

theorem exec_statusFrame (p : StatusPayload) :
    exec (.statusFrame h p) s = .next (s.endReception.deliverStatus h p) := if_pos hs

theorem exec_slipAlertFrame (p : SlipAlertPayload) :
    exec (.slipAlertFrame h p) s = .next (s.endReception.deliverSlipAlert h p) := if_pos hs

theorem exec_faultFrame (p : FaultPayload) :
    exec (.faultFrame h p) s = .next (s.endReception.deliverFault h p) := if_pos hs

end

theorem State.notifyTable_ite (s : State) (n : StationNumber) (c : Prop) [Decidable c] (t : TableNotice) :
    s.notifyTable n (if c then some t else none) = if c then s.notify t.kind (some n) t.value else s := by
  split <;> rfl

/-! ## DEMAND (R46) -/

section
variable {s : State} {h : FrameHeader} {p : DemandPayload}

theorem State.deliverDemand_unconfigured (hmode : s.ssv.mode = .unconfigured) : s.deliverDemand h p = s := if_pos hmode

theorem State.deliverDemand_misplaced (hmode : s.ssv.mode ≠ .unconfigured) (hp : screenDemand h p = none) :
    s.deliverDemand h p = s.countMisplaced := by
  rw [deliverDemand, if_neg hmode, hp]

theorem State.deliverDemand_screened (hmode : s.ssv.mode ≠ .unconfigured) {c : DemandContent}
    (hp : screenDemand h p = some c) : s.deliverDemand h p = s.applyDemand h.seq c := by
  rw [deliverDemand, if_neg hmode, hp]

theorem State.applyDemand_repeated {seq : Seq} (hseq : s.ptb.demand.lastSeq = some seq) (c : DemandContent) :
    s.applyDemand seq c = s := if_pos hseq

theorem State.applyDemand_accepted {seq : Seq} (hseq : s.ptb.demand.lastSeq ≠ some seq) (c : DemandContent) :
    s.applyDemand seq c =
      let accepted : State := { s with ptb := { s.ptb with demand := .accept c seq s.config.demandTimeout } }
      if s.ptb.demand.state = .stale then accepted.notify .demandResumed (some 0) (some seq.toNat) else accepted := by
  rw [applyDemand, if_neg hseq]
  exact notifyTable_ite ..

end

/-- Settles O28, by the mode, the screening and the sequence number. -/
theorem demandReceived : Obligations.DemandReceived := by
  unfold Obligations.DemandReceived
  intro h p s hline hreception hclaim heard
  rw [exec_demandFrame (LinkController.hears_of hline hreception hclaim)]
  refine ⟨fun hmode => ?_, fun hmode hbad => ?_, fun hmode h0 hd hg => ?_⟩
  · rw [State.deliverDemand_unconfigured (s := s.endReception) hmode]
    rfl
  · rw [State.deliverDemand_misplaced (s := s.endReception) hmode (screenDemand_misplaced hbad)]
    rfl
  · rw [State.deliverDemand_screened (s := s.endReception) hmode (screenDemand_accepted h0 hd hg)]
    refine ⟨fun hseq => ?_, fun hseq => ?_⟩
    · rw [State.applyDemand_repeated (s := s.endReception) hseq]
      rfl
    · rw [State.applyDemand_accepted (s := s.endReception) hseq]
      rfl

/-! ## Frames of a motor station (R44, R45, R81) -/

/-- What becomes of a good STATUS, SLIP ALERT or FAULT: the three differ in the content they bring and in what applies it. -/
def State.deliver {α : Type} (s : State) (h : FrameHeader) (content : Option α) (apply : StationNumber → α → State) : State :=
  if s.ssv.mode = .unconfigured then s
  else if sentBy h s.ssv.ownNumber then s.classA .clash
  else ((motorSender h).bind fun n => content.map (apply n)).getD s.countMisplaced

section
variable {α : Type} {s : State} {h : FrameHeader} {content : Option α} {apply : StationNumber → α → State}

theorem State.deliver_unconfigured (hmode : s.ssv.mode = .unconfigured) : s.deliver h content apply = s := if_pos hmode

theorem State.deliver_clash (hmode : s.ssv.mode ≠ .unconfigured) (hown : h.sender.toNat = s.ssv.ownNumber.val) :
    s.deliver h content apply = s.classA .clash := by
  rw [deliver, if_neg hmode, if_pos (sentBy_iff.mpr hown)]

theorem State.deliver_misplaced (hmode : s.ssv.mode ≠ .unconfigured) (hown : h.sender.toNat ≠ s.ssv.ownNumber.val)
    (hbad : motorSender h = none ∨ content = none) : s.deliver h content apply = s.countMisplaced := by
  rw [deliver, if_neg hmode, if_neg (mt sentBy_iff.mp hown)]
  rcases hbad with hnone | hnone <;> simp [hnone]

theorem State.deliver_applied (hmode : s.ssv.mode ≠ .unconfigured) {n : StationNumber} (hn : h.sender.toNat = n.val)
    (h0 : n ≠ 0) (hown : n ≠ s.ssv.ownNumber) {c : α} : s.deliver h (some c) apply = apply n c := by
  have hother : h.sender.toNat ≠ s.ssv.ownNumber.val := fun he => hown (Fin.ext (hn.symm.trans he))
  rw [deliver, if_neg hmode, if_neg (mt sentBy_iff.mp hother), motorSender_of_station hn h0]
  rfl

end

section
variable (s : State) (h : FrameHeader)

theorem State.deliverStatus_eq (p : StatusPayload) :
    s.deliverStatus h p = s.deliver h (readStatus p) fun n c => s.applyStatus n h.seq c := by
  unfold deliverStatus deliver
  cases motorSender h <;> cases readStatus p <;> rfl

theorem State.deliverSlipAlert_eq (p : SlipAlertPayload) :
    s.deliverSlipAlert h p = s.deliver h (readSlipAlert p) fun n a => s.applySlipAlert n h.seq a := by
  unfold deliverSlipAlert deliver
  cases motorSender h <;> cases readSlipAlert p <;> rfl

theorem State.deliverFault_eq (p : FaultPayload) :
    s.deliverFault h p = s.deliver h (FaultCause.ofCode p.cause.toNat) fun n cause => s.applyFault n h.seq cause := by
  unfold deliverFault deliver
  cases motorSender h <;> cases FaultCause.ofCode p.cause.toNat <;> rfl

end

/-- A frame of a motor station whose health, sense or cause code is undefined (R45). -/
def UndefinedCode (h : FrameHeader) (c : Instr) : Prop :=
  (∃ p, c = .statusFrame h p ∧ p.health = 3) ∨ (∃ p, c = .slipAlertFrame h p ∧ (p.sense = 0 ∨ 3 ≤ p.sense.toNat)) ∨
    ∃ p, c = .faultFrame h p ∧ (p.cause = 0 ∨ 5 ≤ p.cause.toNat)

section
variable {h : FrameHeader}

theorem readStatus_undefined {p : StatusPayload} (hp : UndefinedCode h (.statusFrame h p)) : readStatus p = none := by
  rcases hp with ⟨q, hq, hhealth⟩ | ⟨q, hq, -⟩ | ⟨q, hq, -⟩ <;> cases hq
  rw [readStatus_eq, hhealth]
  rfl

theorem readSlipAlert_undefined {p : SlipAlertPayload} (hp : UndefinedCode h (.slipAlertFrame h p)) :
    readSlipAlert p = none := by
  rcases hp with ⟨q, hq, -⟩ | ⟨q, hq, hsense⟩ | ⟨q, hq, -⟩ <;> cases hq
  rw [readSlipAlert_eq, Sense.ofAlertCode_eq_none (hsense.imp_left (congrArg BitVec.toNat))]
  rfl

theorem faultCause_undefined {p : FaultPayload} (hp : UndefinedCode h (.faultFrame h p)) :
    FaultCause.ofCode p.cause.toNat = none := by
  rcases hp with ⟨q, hq, -⟩ | ⟨q, hq, -⟩ | ⟨q, hq, hcause⟩ <;> cases hq
  exact FaultCause.ofCode_eq_none (hcause.imp_left (congrArg BitVec.toNat))

/-- The three frames of a motor station are delivered in one way, and none brings a content under an undefined code. -/
theorem exec_motorFrame {s : State} (hs : s.slc.hears = true) {c : Instr}
    (hc : (∃ p, c = .statusFrame h p) ∨ (∃ p, c = .slipAlertFrame h p) ∨ ∃ p, c = .faultFrame h p) :
    ∃ (α : Type) (content : Option α) (apply : StationNumber → α → State),
      exec c s = .next (s.endReception.deliver h content apply) ∧ (UndefinedCode h c → content = none) := by
  rcases hc with ⟨p, rfl⟩ | ⟨p, rfl⟩ | ⟨p, rfl⟩
  · exact ⟨_, _, _, by rw [exec_statusFrame hs, State.deliverStatus_eq], readStatus_undefined⟩
  · exact ⟨_, _, _, by rw [exec_slipAlertFrame hs, State.deliverSlipAlert_eq], readSlipAlert_undefined⟩
  · exact ⟨_, _, _, by rw [exec_faultFrame hs, State.deliverFault_eq], faultCause_undefined⟩

end

/-- Settles O29: the three frames share their delivery. -/
theorem framesNotApplied : Obligations.FramesNotApplied := by
  unfold Obligations.FramesNotApplied
  intro h c s hline hreception hclaim hc heard
  obtain ⟨α, content, apply, hexec, hundefined⟩ := exec_motorFrame (LinkController.hears_of hline hreception hclaim) hc
  rw [hexec]
  refine ⟨fun hmode => ?_, fun hmode hown => ?_, fun hmode hown hbad => ?_⟩
  · rw [State.deliver_unconfigured (s := s.endReception) hmode]
    rfl
  · rw [State.deliver_clash (s := s.endReception) hmode hown]
    rfl
  · have hnothing : motorSender h = none ∨ content = none := by
      rcases hbad with h0 | h8 | hcode
      · exact .inl (motorSender_eq_none (.inl h0))
      · exact .inl (motorSender_eq_none (.inr h8))
      · exact .inr (hundefined hcode)
    rw [State.deliver_misplaced (s := s.endReception) hmode hown hnothing]
    rfl

end Sys2Proof.Machine
end

section
/-! PROOFS. A STATUS at its sender's entry: the sequence, the transition (R51 to R57) and the discord check (R61, R62). -/

namespace Sys2Proof.Machine

/-! ## The sequence check (R51) -/

section
variable {e : PeerEntry} {seq : Seq}

theorem PeerEntry.seqResult_inSequence {last : Seq} (hlast : e.lastSeq = some last) (hseq : seq = last + 1) :
    e.seqResult seq = .inSequence := by
  simp only [seqResult, hlast]
  exact if_pos hseq

theorem PeerEntry.seqResult_outOfSequence_iff :
    e.seqResult seq = .outOfSequence ↔ ∃ last, e.lastSeq = some last ∧ seq ≠ last + 1 := by
  unfold seqResult
  cases e.lastSeq with
  | none => simp
  | some last => by_cases hseq : seq = last + 1 <;> simp [hseq]

theorem PeerEntry.hear_gaps_outOfSequence (h : e.seqResult seq = .outOfSequence) (timeout : Nat) :
    (e.hear seq timeout).gaps = min 255 (e.gaps + 1) := if_pos h

theorem PeerEntry.hear_gaps_kept (h : e.seqResult seq ≠ .outOfSequence) (timeout : Nat) :
    (e.hear seq timeout).gaps = e.gaps := if_neg h

end

/-! ## The transition (R53 to R57) -/

section
variable {e : PeerEntry}

/-- A counted STATUS moves the state and the join count alone (R54). -/
theorem PeerEntry.countJoin_frame (e : PeerEntry) (r : SeqResult) :
    ∃ st n, e.countJoin r = { e with state := st, joinCount := n } := by
  unfold countJoin
  split
  · split <;> exact ⟨_, _, rfl⟩
  · exact ⟨_, _, rfl⟩

theorem PeerEntry.countJoin_counts (h : e.joinCount ≤ 1) :
    e.countJoin .inSequence = { e with joinCount := e.joinCount + 1 } := by
  have hshort : ¬Config.joinFrames ≤ e.joinCount + 1 := by
    simp only [Config.joinFrames]
    omega
  rw [countJoin, if_pos rfl, if_neg hshort]

theorem PeerEntry.countJoin_third (h : e.joinCount = 2) :
    e.countJoin .inSequence = { e with state := .live, joinCount := 3 } := by
  have hfull : Config.joinFrames ≤ e.joinCount + 1 := by rw [h]; decide
  rw [countJoin, if_pos rfl, if_pos hfull]
  rfl

theorem PeerEntry.countJoin_restarts {r : SeqResult} (h : r ≠ .inSequence) :
    e.countJoin r = { e with joinCount := 1 } := if_neg h

/-- A transition leaves the figures and what every applied frame does first (R53 to R57). -/
theorem PeerEntry.onStatus_frame (e : PeerEntry) (r : SeqResult) (health : Health) :
    ∃ st n count mark alert fault, e.onStatus r health =
      { e with
        state := st, joinCount := n, discordCount := count, discordant := mark, lastAlertSlip := alert
        lastFaultCause := fault } := by
  cases health with
  | withdrawn => exact ⟨_, _, _, _, _, _, rfl⟩
  | joining | sharing =>
    cases hst : e.state with
    | joining =>
      obtain ⟨st, n, hcount⟩ := e.countJoin_frame r
      exact ⟨_, _, _, _, _, _, (onStatus_count (by decide) hst r).trans hcount⟩
    | absent | silent | withdrawn | live =>
      simp only [onStatus, hst]
      exact ⟨_, _, _, _, _, _, rfl⟩

end

/-- An entry heard and its figures stored, before the transition of the STATUS (R51, R52). -/
def PeerEntry.heardStatus (e : PeerEntry) (seq : Seq) (c : StatusContent) (timeout : Nat) : PeerEntry :=
  (e.hear seq timeout).store c

section
variable {e : PeerEntry} {seq : Seq} {c : StatusContent} {timeout : Nat}

theorem PeerEntry.applyStatus_withdrawn (h : c.health = .withdrawn) :
    e.applyStatus seq c timeout = (e.heardStatus seq c timeout).moveTo .withdrawn 0 := by
  rw [applyStatus, h]
  rfl

theorem PeerEntry.applyStatus_start (h : c.health ≠ .withdrawn)
    (hst : e.state = .absent ∨ e.state = .silent ∨ e.state = .withdrawn) :
    e.applyStatus seq c timeout = (e.heardStatus seq c timeout).startJoin :=
  onStatus_start (e := e.heardStatus seq c timeout) h hst _

theorem PeerEntry.applyStatus_count (h : c.health ≠ .withdrawn) (hst : e.state = .joining) :
    e.applyStatus seq c timeout = (e.heardStatus seq c timeout).countJoin (e.seqResult seq) :=
  onStatus_count (e := e.heardStatus seq c timeout) h hst _

theorem PeerEntry.applyStatus_live_joining (h : c.health = .joining) (hst : e.state = .live) :
    e.applyStatus seq c timeout = (e.heardStatus seq c timeout).moveTo .joining 1 := by
  rw [applyStatus, h]
  exact onStatus_live_joining (e := e.heardStatus seq c timeout) hst _

theorem PeerEntry.applyStatus_live_sharing (h : c.health = .sharing) (hst : e.state = .live) :
    e.applyStatus seq c timeout = e.heardStatus seq c timeout := by
  rw [applyStatus, h]
  exact onStatus_live_sharing (e := e.heardStatus seq c timeout) hst _

/-- Out of LIVE no transition of a STATUS forgets the last alert slip or the last fault cause. -/
theorem PeerEntry.applyStatus_live_keeps (hst : e.state = .live) :
    (e.applyStatus seq c timeout).lastAlertSlip = e.lastAlertSlip ∧
      (e.applyStatus seq c timeout).lastFaultCause = e.lastFaultCause := by
  cases h : c.health with
  | withdrawn => rw [applyStatus_withdrawn h]; exact ⟨rfl, rfl⟩
  | joining => rw [applyStatus_live_joining h hst]; exact ⟨rfl, rfl⟩
  | sharing => rw [applyStatus_live_sharing h hst]; exact ⟨rfl, rfl⟩

/-- A STATUS counted in JOINING: up to two in unbroken sequence, LIVE at the third, and the count begun again behind a gap
(R54). -/
theorem PeerEntry.applyStatus_joining (h : c.health ≠ .withdrawn) (hst : e.state = .joining) :
    let t := e.applyStatus seq c timeout
    (t.discordCount = e.discordCount ∧ t.discordant = e.discordant ∧ t.lastAlertSlip = e.lastAlertSlip ∧
      t.lastFaultCause = e.lastFaultCause) ∧
    (e.seqResult seq = .inSequence →
      (e.joinCount ≤ 1 → t.state = .joining ∧ t.joinCount = e.joinCount + 1) ∧
      (e.joinCount = 2 → t.state = .live ∧ t.joinCount = 3)) ∧
    (e.seqResult seq ≠ .inSequence → t.state = .joining ∧ t.joinCount = 1) := by
  rw [applyStatus_count h hst]
  refine ⟨?_, fun hseq => ?_, fun hseq => ?_⟩
  · obtain ⟨st, n, hcount⟩ := (e.heardStatus seq c timeout).countJoin_frame (e.seqResult seq)
    rw [hcount]
    exact ⟨rfl, rfl, rfl, rfl⟩
  · rw [hseq]
    refine ⟨fun hjoin => ?_, fun hjoin => ?_⟩
    · rw [countJoin_counts (e := e.heardStatus seq c timeout) hjoin]
      exact ⟨hst, rfl⟩
    · rw [countJoin_third (e := e.heardStatus seq c timeout) hjoin]
      exact ⟨rfl, rfl⟩
  · rw [countJoin_restarts hseq]
    exact ⟨hst, rfl⟩

end

/-- Settles O31: the fields by the frame of the transition, the transition by health and state. -/
theorem statusTransitions : Obligations.StatusTransitions := by
  unfold Obligations.StatusTransitions
  intro e seq c timeout t outOfSequence
  have hout : e.seqResult seq = .outOfSequence ↔ outOfSequence := PeerEntry.seqResult_outOfSequence_iff
  obtain ⟨st, n, count, mark, alert, fault, hframe⟩ :=
    (e.heardStatus seq c timeout).onStatus_frame (e.seqResult seq) c.health
  have hgaps : t.gaps = (e.heardStatus seq c timeout).gaps := (congrArg PeerEntry.gaps hframe :)
  refine ⟨congrArg PeerEntry.silenceTimer hframe, congrArg PeerEntry.lastSeq hframe, fun h => ?_, fun h => ?_,
    congrArg PeerEntry.health hframe, congrArg PeerEntry.propCap hframe, congrArg PeerEntry.retCap hframe,
    congrArg PeerEntry.weight hframe, congrArg PeerEntry.axleSpeed hframe, congrArg PeerEntry.reported hframe,
    congrArg PeerEntry.reportedDemandSeq hframe, congrArg PeerEntry.rateLimited hframe,
    congrArg PeerEntry.slipFlag hframe, congrArg PeerEntry.grip hframe, fun h => ?_, fun h hst => ?_, fun h hst => ?_,
    fun hst => ⟨?_, ?_, fun h => ?_, fun h => ?_⟩⟩
  · exact hgaps.trans (PeerEntry.hear_gaps_outOfSequence (hout.mpr h) timeout)
  · exact hgaps.trans (PeerEntry.hear_gaps_kept (mt hout.mp h) timeout)
  · simp only [t, PeerEntry.applyStatus_withdrawn h]
    exact ⟨rfl, rfl, rfl, rfl, rfl, rfl⟩
  · simp only [t, PeerEntry.applyStatus_start h hst]
    exact ⟨rfl, rfl, rfl, rfl⟩
  · obtain ⟨⟨hcount, hmark, halert, hfault⟩, hcounted, hrestarted⟩ :=
      PeerEntry.applyStatus_joining (seq := seq) (timeout := timeout) h hst
    refine ⟨hcount, hmark, halert, hfault, fun hnext hheard => ?_, fun hgap => ?_⟩
    · obtain ⟨last, hlast⟩ := Option.ne_none_iff_exists'.mp hheard
      exact hcounted (PeerEntry.seqResult_inSequence hlast (hnext last hlast))
    · exact hrestarted (by rw [hout.mpr hgap]; decide)
  · exact (PeerEntry.applyStatus_live_keeps hst).1
  · exact (PeerEntry.applyStatus_live_keeps hst).2
  · simp only [t, PeerEntry.applyStatus_live_sharing h hst]
    exact ⟨hst, rfl, rfl, rfl⟩
  · simp only [t, PeerEntry.applyStatus_live_joining h hst]
    exact ⟨rfl, rfl, rfl, rfl⟩

/-! ## The discord check (R61, R62) -/

/-- The share a STATUS is compared with: the sender's unfixed entry in a vector of the demand sequence it names (R24, R61). -/
theorem comparedShare_eq_some_iff {v : Option ShareVector} {n : StationNumber} {c : StatusContent} {x : Int} :
    comparedShare v n c = some x ↔
      ∃ w share q, v = some w ∧ entryOf w.entries n = some share ∧ share.isFixed = false ∧ c.demandSeq = some q ∧
        w.seqUsed = some q ∧ share.share = x := by
  unfold comparedShare entryOf
  cases v with
  | none => simp
  | some w =>
    cases hentry : w.entries.find? (fun e => e.number == n) with
    | none => simp [hentry]
    | some share => cases hseq : c.demandSeq <;> simp [hentry, and_assoc, eq_comm (b := w.seqUsed)]

/-- The check is made of an unmarked entry LIVE before and after a STATUS that is not rate-limited (R61, R62). -/
theorem discordDifference_eq_some_iff {before after : PeerEntry} {v : Option ShareVector} {n : StationNumber}
    {c : StatusContent} {d : Nat} :
    discordDifference before after v n c = some d ↔
      (before.state = .live ∧ after.state = .live ∧ after.discordant = false ∧ c.rateLimited = false) ∧
        ∃ x, comparedShare v n c = some x ∧ (c.reported - x).natAbs = d := by
  unfold discordDifference
  split
  · rename_i hmade
    simp only [hmade, true_and, and_self, Option.map_eq_some_iff]
  · rename_i hnot
    simp only [hnot, false_and, reduceCtorEq]

theorem PeerEntry.checkDiscord_within (e : PeerEntry) {d band : Nat} (h : d ≤ band) :
    e.checkDiscord (some d) band = { e with discordCount := 0 } := if_neg (Nat.not_lt.mpr h)

theorem PeerEntry.checkDiscord_beyond (e : PeerEntry) {d band : Nat} (h : band < d) :
    e.checkDiscord (some d) band =
      { e with discordCount := e.discordCount + 1, discordant := decide (3 ≤ e.discordCount) } := by
  have hlimit : (Config.discordLimit ≤ e.discordCount + 1) = (3 ≤ e.discordCount) := by
    simp only [Config.discordLimit, eq_iff_iff]
    omega
  change e.judgeDiscord d band = _
  rw [judgeDiscord, if_pos h]
  simp only [hlimit]

/-- Settles O32: the check is made exactly where there is a difference. -/
theorem discordCheck : Obligations.DiscordCheck := by
  unfold Obligations.DiscordCheck
  intro before e v n c band result
  refine ⟨fun w share hv hentry hfixed hseq hbefore hafter hmark hrate => ?_, fun hnot => ?_⟩
  · obtain ⟨q, hnamed, hused⟩ := hseq
    have hshare : comparedShare v n c = some share.share :=
      comparedShare_eq_some_iff.mpr ⟨w, share, q, hv, hentry, hfixed, hnamed, hused, rfl⟩
    have hdifference : discordDifference before e v n c = some (c.reported - share.share).natAbs :=
      discordDifference_eq_some_iff.mpr ⟨⟨hbefore, hafter, hmark, hrate⟩, _, hshare, rfl⟩
    simp only [result, hdifference]
    exact ⟨e.checkDiscord_within, e.checkDiscord_beyond⟩
  · have hdifference : discordDifference before e v n c = none := by
      rw [Option.eq_none_iff_forall_ne_some]
      intro d hd
      obtain ⟨⟨hbefore, hafter, hmark, hrate⟩, x, hx, -⟩ := discordDifference_eq_some_iff.mp hd
      obtain ⟨w, share, q, rfl, hentry, hfixed, hnamed, hused, -⟩ := comparedShare_eq_some_iff.mp hx
      simp [hbefore, hafter, hmark, hrate, hentry, hfixed, hnamed, hused] at hnot
    simp only [result, hdifference]
    rfl

end Sys2Proof.Machine
end

section
/-! PROOFS. A peer's frame changes its entry alone, with the notices its change raises (R51 to R59, R62, R64). -/

namespace Sys2Proof.Machine

/-! ## STATUS (R52 to R57, R61, R62) -/

/-- A STATUS that moves the entry into or out of LIVE is not judged for discord. -/
theorem discordDifference_eq_none {before after : PeerEntry} (h : ¬(before.state = .live ∧ after.state = .live))
    (v : Option ShareVector) (n : StationNumber) (c : StatusContent) : discordDifference before after v n c = none :=
  if_neg fun hmade => h ⟨hmade.1, hmade.2.1⟩

/-- PEER_DISCORD is raised by the change of the mark, with the difference (R62). -/
theorem discordNotice_eq {e : PeerEntry} {difference : Option Nat} (hunmarked : difference.isSome → e.discordant = false)
    (band : Nat) :
    discordNotice e difference band =
      if e.discordant = false ∧ (e.checkDiscord difference band).discordant = true then some ⟨.peerDiscord, difference⟩
      else none := by
  cases difference with
  | none => exact (if_neg fun h => by simp [PeerEntry.checkDiscord, h.1] at h).symm
  | some d =>
    simp only [discordNotice, PeerEntry.checkDiscord, hunmarked rfl, true_and]

/-- A STATUS raises at most one notice: that of its transition, or that of its discord check. -/
theorem State.applyStatus_eq (s : State) (n : StationNumber) (seq : Seq) (c : StatusContent) :
    s.applyStatus n seq c =
      let before := s.ptb.entry n
      let moved := before.applyStatus seq c s.config.silenceTimeout
      let difference := discordDifference before moved s.spe.vector n c
      let after := moved.checkDiscord difference s.config.discordBand
      let stored := s.withEntry n after
      if before.state = .joining ∧ moved.state = .live then stored.notify .peerJoined (some n) none
      else if before.state = .live ∧ moved.state = .withdrawn then stored.notify .peerWithdrawn (some n) none
      else if moved.discordant = false ∧ after.discordant = true then stored.notify .peerDiscord (some n) difference
      else stored := by
  unfold State.applyStatus
  extract_lets before moved difference after stored
  have hunjudged : ¬(before.state = .live ∧ moved.state = .live) →
      discordNotice moved difference s.config.discordBand = none := fun h => by
    simp only [difference, discordDifference_eq_none h]
    rfl
  unfold statusNotice
  split
  · rename_i hjoined
    rw [hunjudged (by simp [hjoined])]
    rfl
  · split
    · rename_i hwithdrawn
      rw [hunjudged (by simp [hwithdrawn])]
      rfl
    · rw [discordNotice_eq fun h => (discordDifference_isSome h).2]
      exact notifyTable_ite ..

/-- Settles O30: the STATUS is applied to the entry of its sender. -/
theorem statusReceived : Obligations.StatusReceived := by
  unfold Obligations.StatusReceived
  intro h p n health s hline hreception hclaim hmode hsender h0 hown hhealth
  rw [exec_statusFrame (LinkController.hears_of hline hreception hclaim), State.deliverStatus_eq,
    readStatus_health hhealth, State.deliver_applied (s := s.endReception) hmode hsender h0 hown, State.applyStatus_eq]
  rfl

/-! ## SLIP ALERT and FAULT (R58, R59) -/

section
variable {e : PeerEntry} {seq : Seq} {timeout : Nat}

theorem PeerEntry.hear_eq (e : PeerEntry) (seq : Seq) (timeout : Nat) :
    e.hear seq timeout = { e with
      silenceTimer := .running timeout
      lastSeq := some seq
      gaps := match e.lastSeq with
        | some last => if seq = last + 1 then e.gaps else min 255 (e.gaps + 1)
        | none => e.gaps } := by
  have hgaps : (e.hear seq timeout).gaps = match e.lastSeq with
      | some last => if seq = last + 1 then e.gaps else min 255 (e.gaps + 1)
      | none => e.gaps := by
    cases hlast : e.lastSeq with
    | none => exact hear_gaps_kept (mt seqResult_outOfSequence_iff.mp (by simp [hlast])) timeout
    | some last =>
      by_cases hseq : seq = last + 1
      · exact (hear_gaps_kept (by rw [seqResult_inSequence hlast hseq]; decide) timeout).trans (if_pos hseq).symm
      · exact (hear_gaps_outOfSequence (seqResult_outOfSequence_iff.mpr ⟨last, hlast, hseq⟩) timeout).trans
          (if_neg hseq).symm
  rw [← hgaps]
  rfl

theorem PeerEntry.applySlipAlert_absent (hst : e.state = .absent) (a : SlipAlert) :
    e.applySlipAlert seq a timeout = e.hear seq timeout := if_pos hst

theorem PeerEntry.applySlipAlert_present (hst : e.state ≠ .absent) (a : SlipAlert) :
    e.applySlipAlert seq a timeout = (e.hear seq timeout).storeAlert a := if_neg hst

end

/-- A SLIP ALERT with a defined sense sets the cap of that sense and leaves the other (R59). -/
theorem storeAlert_defined {p : SlipAlertPayload} (hp : p.sense = 1 ∨ p.sense = 2) :
    ∃ a, readSlipAlert p = some a ∧ ∀ e : PeerEntry, e.storeAlert a =
      { e with
        propCap := if p.sense = 1 then min p.newCap.toNat 8000 else e.propCap
        retCap := if p.sense = 2 then min p.newCap.toNat 8000 else e.retCap
        weight := min p.newWeight.toNat 1000
        lastAlertSlip := some (min p.slip.toNat 1000)
        slipFlag := true } := by
  rcases hp with hp | hp
  · exact ⟨_, readSlipAlert_propulsive hp, fun e => by simp only [hp]; rfl⟩
  · exact ⟨_, readSlipAlert_retarding hp, fun e => by simp only [hp]; rfl⟩

section
variable {s : State} (hs : s.slc.hears = true) (hmode : s.ssv.mode ≠ .unconfigured) {h : FrameHeader} {n : StationNumber}
  (hsender : h.sender.toNat = n.val) (h0 : n ≠ 0) (hown : n ≠ s.ssv.ownNumber)
include hs hmode hsender h0 hown

theorem exec_slipAlertFrame_applied {p : SlipAlertPayload} {a : SlipAlert} (hp : readSlipAlert p = some a) :
    exec (.slipAlertFrame h p) s = .next (s.endReception.applySlipAlert n h.seq a) := by
  rw [exec_slipAlertFrame hs, State.deliverSlipAlert_eq, hp,
    State.deliver_applied (s := s.endReception) hmode hsender h0 hown]

theorem exec_faultFrame_applied {p : FaultPayload} {cause : FaultCause} (hp : p.cause.toNat = cause.code) :
    exec (.faultFrame h p) s = .next (s.endReception.applyFault n h.seq cause) := by
  rw [exec_faultFrame hs, State.deliverFault_eq, hp, FaultCause.ofCode_code,
    State.deliver_applied (s := s.endReception) hmode hsender h0 hown]

end

/-- Settles O33, by the state of the entry and the sense of the alert. -/
theorem alertsAndFaultsReceived : Obligations.AlertsAndFaultsReceived := by
  unfold Obligations.AlertsAndFaultsReceived
  intro h n s hline hreception hclaim hmode hsender h0 hown before heard stored
  have hs := LinkController.hears_of hline hreception hclaim
  have hheard : before.hear h.seq s.config.silenceTimeout = heard := PeerEntry.hear_eq ..
  refine ⟨fun p hsense => ?_, fun p cause hcause => ?_⟩
  · obtain ⟨a, hread, hstored⟩ := storeAlert_defined hsense
    rw [exec_slipAlertFrame_applied hs hmode hsender h0 hown hread]
    refine ⟨fun hst => ?_, fun hst => ?_⟩
    · have happlied : before.applySlipAlert h.seq a s.config.silenceTimeout = heard :=
        (PeerEntry.applySlipAlert_absent hst a).trans hheard
      rw [← happlied]
      rfl
    · have happlied : before.applySlipAlert h.seq a s.config.silenceTimeout = heard.storeAlert a := by
        rw [PeerEntry.applySlipAlert_present hst, hheard]
      rw [hstored heard] at happlied
      exact congrArg (fun e => Host.Outcome.next (stored e)) happlied
  · rw [exec_faultFrame_applied hs hmode hsender h0 hown hcause, ← hheard]
    exact congrArg Host.Outcome.next (State.notifyTable_ite ..)

end Sys2Proof.Machine
end

section
/-! PROOFS. The timers of the Peer Table (R47, R60) and its reading through the local port (R48, R50, R65). -/

namespace Sys2Proof.Machine

/-! ## Expiries -/

section
variable {s : State}

theorem exec_demandTimerExpiry {ms : Nat} (hrun : s.ptb.demand.timer = .running ms) :
    exec .demandTimerExpiry s = .next
      ({ s with ptb := { s.ptb with demand := s.ptb.demand.expire } : State }.notifyTable 0 s.ptb.demand.expireNotice) :=
  if_pos (by rw [hrun]; rfl)

theorem exec_silenceTimerExpiry {n : StationNumber} {ms : Nat} (hrun : (s.ptb.entry n).silenceTimer = .running ms) :
    exec (.silenceTimerExpiry n) s = .next
      ((s.withEntry n (s.ptb.entry n).fallSilent).notifyTable n (s.ptb.entry n).silenceNotice) :=
  if_pos (by rw [hrun]; rfl)

end

section
variable {d : DemandRecord} {e : PeerEntry}

theorem DemandRecord.expire_fresh (h : d.state = .fresh) :
    d.expire = { d with state := .stale, timer := .stopped } := by
  rw [expire, if_pos h]

theorem DemandRecord.expireNotice_fresh (h : d.state = .fresh) {q : Seq} (hq : d.lastSeq = some q) :
    d.expireNotice = some ⟨.demandStale, some q.toNat⟩ := by
  rw [expireNotice, if_pos h, hq]
  rfl

theorem PeerEntry.silenceNotice_live (h : e.state = .live) : e.silenceNotice = some ⟨.peerSilent, none⟩ := if_pos h

theorem PeerEntry.silenceNotice_other (h : e.state ≠ .live) : e.silenceNotice = none := if_neg h

end

/-- Settles O34, by the states of the record and of the entry. -/
theorem tableTimers : Obligations.TableTimers := by
  unfold Obligations.TableTimers
  refine ⟨fun ms q s hrun hfresh hq => ?_, fun n ms s hrun => ?_⟩
  · rw [exec_demandTimerExpiry hrun, DemandRecord.expire_fresh hfresh, DemandRecord.expireNotice_fresh hfresh hq]
    rfl
  · intro silent
    rw [exec_silenceTimerExpiry hrun]
    refine ⟨fun hlive => ?_, fun hjoining => ?_, fun hlive hjoining => ?_⟩
    · rw [PeerEntry.fallSilent_joined (.inr hlive), PeerEntry.silenceNotice_live hlive]
      rfl
    · rw [PeerEntry.fallSilent_joined (.inl hjoining), PeerEntry.silenceNotice_other (by rw [hjoining]; decide)]
      rfl
    · rw [PeerEntry.fallSilent_other hjoining hlive, PeerEntry.silenceNotice_other hlive]
      rfl

/-! ## PEER_VIEW (R48, R50, R65) -/

section
variable {s : State}

theorem exec_exchangeStart_reply {r : Reply} (hidle : s.lpt.inExchange = false) (hreply : s.lpt.reply = some r) :
    exec .exchangeStart s = .next (s.sendReply r) := by
  change execExchangeStart s = _
  simp only [execExchangeStart, hidle, hreply]
  rfl

theorem State.sendPeerView_demand : s.sendPeerView 0 = { s with lpt := s.lpt.send (.demandView s.ptb.demand) } := rfl

theorem State.sendPeerView_self (h0 : s.ssv.ownNumber ≠ 0) :
    s.sendPeerView s.ssv.ownNumber =
      { s with
        slc := s.slc.clearCounters
        slm := { s.slm with slipEvents := 0 }
        lpt := s.lpt.send (.selfView s.selfView) } := by
  rw [sendPeerView, if_neg h0, if_pos rfl]

theorem State.sendPeerView_peer {n : StationNumber} (h0 : n ≠ 0) (hown : n ≠ s.ssv.ownNumber) :
    s.sendPeerView n =
      { s with
        ptb := s.ptb.withEntry n { s.ptb.entry n with gaps := 0 }
        lpt := s.lpt.send (.peerView n (s.ptb.entry n)) } := by
  rw [sendPeerView, if_neg h0, if_neg hown]

end

/-- A reply taken for its send leaves the slot empty (R159, R161). -/
def State.replyTaken (s : State) : State := { s with lpt := { s.lpt with reply := none } }

theorem State.sendReply_peerView (s : State) (n : StationNumber) :
    s.sendReply (.peerView n) = s.replyTaken.sendPeerView n := rfl

/-- Settles O7, by the number the request names. -/
theorem exchangeStartSendsPeerView : Obligations.ExchangeStartSendsPeerView := by
  unfold Obligations.ExchangeStartSendsPeerView
  refine fun s hidle => ⟨fun hreply => ?_, fun h0 hreply => ?_, fun n h0 hown hreply => ?_⟩
  all_goals rw [exec_exchangeStart_reply hidle hreply, State.sendReply_peerView]
  · rw [State.sendPeerView_demand]
    rfl
  · have hself := State.sendPeerView_self (s := s.replyTaken) h0
    exact congrArg Host.Outcome.next hself
  · rw [State.sendPeerView_peer (s := s.replyTaken) h0 hown]
    rfl

end Sys2Proof.Machine
end

section
/-! PROOFS. What the Share Link Controller does at each event of the share link (chapter 4). -/

namespace Sys2Proof.Machine

/-! ## The Share Link Controller alone -/

theorem LinkController.countError_eq (c : LinkController) :
    c.countError = { c with crcErrors := if c.ownAbort then c.crcErrors else min 255 (c.crcErrors + 1) } := rfl

theorem LinkController.becomeFree_eq (c : LinkController) :
    c.becomeFree =
      { c with
        line := .free
        received := []
        reception := .idle
        ownAbort := false
        claim := if c.claim = .waiting ∧ c.transmit ≠ none then .contending else c.claim
        crcErrors := if c.line = .frame ∧ c.reception = .receiving ∧ c.ownAbort = false
          then min 255 (c.crcErrors + 1) else c.crcErrors } := by
  unfold LinkController.becomeFree
  by_cases hshort : c.line = .frame ∧ c.reception = .receiving <;> by_cases habort : c.ownAbort = true <;>
    simp [hshort, habort, LinkController.countError_eq, Option.isSome_iff_ne_none]

theorem LinkController.canFree_iff (c : LinkController) :
    c.canFree = true ↔
      (c.line = .busyUnknown ∨ c.line = .window ∨ c.line = .frame) ∧ c.resetDrive ≠ .driving ∧ c.claim ≠ .sending := by
  simp [LinkController.canFree, or_assoc, and_assoc]

theorem LinkController.hears_iff (c : LinkController) :
    c.hears = true ↔ c.line = .frame ∧ c.reception = .receiving ∧ c.claim ≠ .sending := by
  simp [LinkController.hears, and_assoc]

end Sys2Proof.Machine
end

section
/-! PROOFS. The Share Link Controller stays consistent: what the invariant reads of the state, and each event of the share
link on it (R71 to R88). -/

namespace Sys2Proof.Machine

/-! ## The attempt record of a frame (R77, R83) -/

theorem TransmitFrame.Legal.fresh (f : OwnFrame) (own : StationNumber) : TransmitFrame.Legal ⟨f, none, none, 0⟩ own where
  crc := rfl
  failures := Nat.zero_le _
  numbered h := by cases h

theorem TransmitFrame.Legal.number {f : TransmitFrame} {own : StationNumber} (hf : f.Legal own) (seq : Seq) :
    (f.number own seq).Legal own where
  crc := rfl
  failures := hf.failures
  numbered _ := rfl

/-! ## What the invariant reads -/

section
variable {s t : State}

/-- It reads the controller, the own number, and whether the station is configured. -/
theorem State.LinkSafe.congr (hs : s.LinkSafe) (hslc : t.slc = s.slc) (hown : t.ssv.ownNumber = s.ssv.ownNumber)
    (hmode : t.ssv.mode = .unconfigured → s.ssv.mode = .unconfigured) : t.LinkSafe := by
  constructor <;> rw [hslc]
  case frame => rw [hown]; exact hs.frame
  case silent => exact fun h => hs.silent (hmode h)
  exacts [hs.buffer, hs.numbered, hs.contending, hs.waiting, hs.sending, hs.reception, hs.received, hs.length, hs.resetting,
    hs.reset]

theorem State.LinkSafe.of_eq (hs : s.LinkSafe) (hslc : t.slc = s.slc) (hssv : t.ssv = s.ssv) : t.LinkSafe :=
  hs.congr hslc (by rw [hssv]) (by rw [hssv]; exact id)

/-- A controller that claims nothing is consistent with an empty transmit buffer and a reception that fits the line. -/
theorem State.LinkSafe.of_unclaimed (hclaim : t.slc.claim = .none) (hbuffer : t.slc.transmit = none)
    (hreception : t.slc.reception = .idle ↔ t.slc.line ≠ .frame)
    (hreceived : t.slc.reception ≠ .receiving → t.slc.received = [])
    (hlength : t.slc.received.length ≤ expectedLength t.slc.received)
    (hresetting : t.slc.line = .resetting → t.slc.resetDrive ≠ .pending)
    (hsilent : t.ssv.mode = .unconfigured → t.slc.resetDrive = .none) : t.LinkSafe where
  buffer := by simp [hclaim, hbuffer]
  frame f hf := by simp [hbuffer] at hf
  numbered f hf := by simp [hbuffer] at hf
  contending h := by simp [hclaim] at h
  waiting h := by simp [hclaim] at h
  sending h := by simp [hclaim] at h
  reception := hreception
  received := hreceived
  length := hlength
  resetting := hresetting
  reset _ := hclaim
  silent hmode := ⟨hclaim, hsilent hmode⟩

end

/-! ## What a consistent controller claims and drives -/

section
variable {s : State} (hs : s.LinkSafe)
include hs

theorem State.LinkSafe.configured_of_claim (hclaim : s.slc.claim ≠ .none) : s.ssv.mode ≠ .unconfigured :=
  fun hmode => hclaim (hs.silent hmode).1

theorem State.LinkSafe.undriven_of_claim (hclaim : s.slc.claim ≠ .none) : s.slc.resetDrive = .none :=
  by_contra fun hdrive => hclaim (hs.reset hdrive)

theorem State.LinkSafe.idle_of_line (hline : s.slc.line ≠ .frame) : s.slc.reception = .idle := hs.reception.mpr hline

/-- Out of the window and the frame a claim neither waits nor sends. -/
theorem State.LinkSafe.claim_of_line (hwindow : s.slc.line ≠ .window) (hframe : s.slc.line ≠ .frame) :
    s.slc.claim = .none ∨ s.slc.claim = .contending := by
  cases hclaim : s.slc.claim with
  | none => exact .inl rfl
  | contending => exact .inr rfl
  | waiting => exact absurd (hs.waiting hclaim) (by simp [hwindow, hframe])
  | sending => exact absurd (hs.sending hclaim) (by simp [hwindow, hframe])

/-! ## Claim windows (R71, R72, R76, R77) -/

theorem State.LinkSafe.windowStart (hline : s.slc.line = .free) :
    { s with slc := { s.slc with line := .window } : State }.LinkSafe :=
  { hs with
    contending := fun _ => .inr rfl
    waiting := fun _ => .inl rfl
    sending := fun _ => .inl rfl
    reception := by simp [hs.idle_of_line (by simp [hline])]
    resetting := fun h => by cases h }

theorem State.LinkSafe.frameStart (hclaim : s.slc.claim ≠ .contending) :
    { s with slc := { s.slc with line := .frame, received := [], reception := .receiving } : State }.LinkSafe :=
  { hs with
    contending := fun h => absurd h hclaim
    waiting := fun _ => .inr rfl
    sending := fun _ => .inr ⟨rfl, rfl⟩
    reception := by simp
    received := fun _ => rfl
    length := Nat.zero_le _
    resetting := fun h => by cases h }

theorem State.LinkSafe.winClaim (hline : s.slc.line = .window) (hclaim : s.slc.claim = .contending) {f : TransmitFrame}
    (hf : s.slc.transmit = some f) : (s.winClaim f).LinkSafe := by
  have hclaimed : s.slc.claim ≠ .none := by simp [hclaim]
  have hmode := hs.configured_of_claim hclaimed
  have hdrive := hs.undriven_of_claim hclaimed
  unfold State.winClaim
  split
  · rename_i q hq
    exact
      { hs with
        buffer := by simp [hf]
        numbered := fun g hg _ => by
          cases hf.symm.trans hg
          simp [hq]
        contending := fun h => by cases h
        waiting := fun h => by cases h
        sending := fun _ => .inl hline
        reset := fun h => absurd hdrive h
        silent := fun h => absurd h hmode }
  · exact
      { hs with
        buffer := by simp
        frame := fun g hg => by
          cases hg
          exact TransmitFrame.Legal.number (hs.frame f hf) _
        numbered := fun g hg _ => by
          cases hg
          rfl
        contending := fun h => by cases h
        waiting := fun h => by cases h
        sending := fun _ => .inl hline
        reset := fun h => absurd hdrive h
        silent := fun h => absurd h hmode }

theorem State.LinkSafe.claimLost (hline : s.slc.line = .window) (hclaim : s.slc.claim = .contending) (lost : Nat) :
    { s with slc := { s.slc with claim := .waiting, lostClaims := lost } : State }.LinkSafe := by
  have hclaimed : s.slc.claim ≠ .none := by simp [hclaim]
  exact
    { hs with
      buffer := by simpa [hclaim] using hs.buffer
      numbered := fun _ _ h => by cases h
      contending := fun h => by cases h
      waiting := fun _ => .inl hline
      sending := fun h => by cases h
      reset := fun h => absurd (hs.undriven_of_claim hclaimed) h
      silent := fun h => absurd h (hs.configured_of_claim hclaimed) }

/-! ## The return to FREE and the move (R73, R75, R98) -/

theorem State.LinkSafe.move : s.move.LinkSafe := by
  rcases s.move_cases with h | ⟨f, rest, htake, hmode, -, h⟩ <;> rw [h]
  · exact hs
  · obtain ⟨hline, -, hdrive⟩ := s.slc.canTake_iff.mp htake
    exact
      { hs with
        buffer := by simp
        frame := fun g hg => by
          cases hg
          exact TransmitFrame.Legal.fresh ..
        numbered := fun _ _ h => by cases h
        contending := fun _ => .inl hline
        waiting := fun h => by cases h
        sending := fun h => by cases h
        reset := fun h => absurd hdrive h
        silent := fun h => absurd h hmode }

/-- A frame that waited contends on the free line; no claim waits or sends there. -/
theorem State.LinkSafe.becomeFree (hsending : s.slc.claim ≠ .sending) :
    { s with slc := s.slc.becomeFree : State }.LinkSafe := by
  rw [LinkController.becomeFree_eq]
  by_cases hwaiting : s.slc.claim = .waiting
  · have hclaimed : s.slc.claim ≠ .none := by simp [hwaiting]
    have hfull : s.slc.transmit ≠ none := fun h => hclaimed (hs.buffer.mpr h)
    simp only [hwaiting, hfull, ne_eq, not_false_eq_true, and_self, if_true]
    exact
      { hs with
        buffer := by simp [hfull]
        numbered := fun _ _ h => by cases h
        contending := fun _ => .inl rfl
        waiting := fun h => by cases h
        sending := fun h => by cases h
        reception := by simp
        received := fun _ => rfl
        length := Nat.zero_le _
        resetting := fun h => by cases h
        reset := fun h => absurd (hs.undriven_of_claim hclaimed) h
        silent := fun h => absurd h (hs.configured_of_claim hclaimed) }
  · simp only [hwaiting, false_and, if_false]
    exact
      { hs with
        contending := fun _ => .inl rfl
        waiting := fun h => absurd h hwaiting
        sending := fun h => absurd h hsending
        reception := by simp
        received := fun _ => rfl
        length := Nat.zero_le _
        resetting := fun h => by cases h }

/-! ## Receptions (R79, R80) -/

theorem State.LinkSafe.endReception (hhears : s.slc.hears = true) (atLength : Bool) (errors : Nat) :
    { s with slc := { s.slc.endReception atLength with crcErrors := errors } : State }.LinkSafe := by
  obtain ⟨hline, -, hclaim⟩ := s.slc.hears_iff.mp hhears
  exact
    { hs with
      sending := fun h => absurd h hclaim
      reception := by simp [LinkController.endReception, hline]
      received := fun _ => rfl
      length := Nat.zero_le _ }

theorem State.LinkSafe.countMisplaced : s.countMisplaced.LinkSafe := { hs with }

/-! ## Own frames (R82 to R85) -/

theorem State.LinkSafe.sent (hline : s.slc.line = .frame) : { s with slc := s.slc.sent : State }.LinkSafe :=
  .of_unclaimed rfl rfl (by simp [LinkController.sent, LinkController.endReception, LinkController.discardOwn, hline])
    (fun _ => rfl) (Nat.zero_le _) hs.resetting (fun hmode => (hs.silent hmode).2)

theorem State.LinkSafe.abortOwn (hclaim : s.slc.claim = .sending) {f : TransmitFrame} (hf : s.slc.transmit = some f) :
    { s with slc := s.slc.abortOwn f : State }.LinkSafe := by
  have hclaimed : s.slc.claim ≠ .none := by simp [hclaim]
  exact
    { hs with
      buffer := by simp [LinkController.abortOwn]
      frame := fun g hg => by
        cases hg
        exact { crc := (hs.frame f hf).crc, failures := Nat.le_refl 1, numbered := fun _ => hs.numbered f hf hclaim }
      numbered := fun _ _ h => by cases h
      contending := fun h => by cases h
      waiting := fun _ => (hs.sending hclaim).imp_right And.left
      sending := fun h => by cases h
      reset := fun h => absurd (hs.undriven_of_claim hclaimed) h
      silent := fun h => absurd h (hs.configured_of_claim hclaimed) }

theorem State.LinkSafe.dropOwn : { s with slc := s.slc.dropOwn : State }.LinkSafe :=
  .of_unclaimed rfl rfl hs.reception hs.received hs.length hs.resetting (fun hmode => (hs.silent hmode).2)

/-! ## Link resets (R74, R86 to R88) -/

theorem State.LinkSafe.requestReset (hmode : s.ssv.mode ≠ .unconfigured) (hline : s.slc.line ≠ .resetting) :
    { s with slc := s.slc.requestReset : State }.LinkSafe :=
  .of_unclaimed rfl rfl hs.reception hs.received hs.length (fun h => absurd h hline) (fun h => absurd h hmode)

/-- A PENDING drive begins, or a drive ends: both stand without a claim. -/
theorem State.LinkSafe.withDrive (hdrive : s.slc.resetDrive ≠ .none) {drive : ResetDrive} (hd : drive ≠ .pending) :
    { s with slc := { s.slc with resetDrive := drive } : State }.LinkSafe :=
  have hclaim := hs.reset hdrive
  .of_unclaimed hclaim (hs.buffer.mp hclaim) hs.reception hs.received hs.length (fun _ => hd)
    (fun hmode => absurd (hs.silent hmode).2 hdrive)

theorem State.LinkSafe.resettingReleased (hline : s.slc.line = .resetting) :
    { s with slc := { s.slc with line := .busyUnknown } : State }.LinkSafe := by
  have hframe : s.slc.line ≠ .frame := by simp [hline]
  have hclaim : s.slc.claim = .none :=
    (hs.claim_of_line (by simp [hline]) hframe).resolve_right fun h => by simpa [hline] using hs.contending h
  exact .of_unclaimed hclaim (hs.buffer.mp hclaim) (by simp [hs.idle_of_line hframe]) hs.received hs.length
    (fun h => by cases h) (fun hmode => (hs.silent hmode).2)

theorem State.LinkSafe.linkReset : s.linkReset.LinkSafe := by
  refine .of_unclaimed rfl rfl ?_ (fun _ => rfl) (Nat.zero_le _) ?_ ?_
  · simp [State.linkReset, LinkController.enterResetting]
  · intro _
    simp only [State.linkReset, State.notify_slc, LinkController.enterResetting, LinkController.discardOwn]
    split <;> simp_all
  · intro hmode
    have hdrive := (hs.silent ((Supervisor.linkReset_unconfigured_iff _).mp hmode)).2
    simp [State.linkReset, LinkController.enterResetting, LinkController.discardOwn, hdrive]

end

theorem State.afterReset_linkSafe (pending : List Instr) (timebase : TimeStamp) (cause : ResetCause) (n : StationNumber) :
    (State.afterReset pending timebase cause n).LinkSafe :=
  .of_unclaimed rfl rfl (by simp [State.afterReset, LinkController.afterReset]) (fun _ => rfl) (Nat.zero_le _)
    (fun h => by cases h) (fun _ => rfl)

end Sys2Proof.Machine
end

section
/-! PROOFS. Every command keeps the Share Link Controller consistent (O58). -/

namespace Sys2Proof.Machine

/-! ## Outcomes that keep an invariant -/

/-- Every state an outcome leads to has this property. -/
def Keeps (P : State → Prop) (o : Host.Outcome State Fault Refusal) : Prop := ∀ t, o = .next t → P t

theorem Keeps.next {P : State → Prop} {t : State} (h : P t) : Keeps P (.next t) := by
  rintro _ ⟨⟩
  exact h

/-- A command that acts only where its event can occur (log 2). -/
theorem Keeps.guarded {P : State → Prop} {s t : State} {p : Prop} [Decidable p] (hs : P s) (ht : p → P t) :
    Keeps P (if p then .next t else .next s) := by
  split
  · exact .next (ht ‹_›)
  · exact .next hs

/-- An invariant that does not read the queue, and that every command keeps, is kept by every step (log 1). -/
theorem step_keeps {P : State → Prop} {s t : State} (hqueue : ∀ queue, P { s with pending := queue })
    (hexec : ∀ (i : Instr) (u : State), P u → Keeps P (exec i u)) (hstep : step s = .next t) : P t := by
  unfold step at hstep
  split at hstep
  · exact hexec _ _ (hqueue _) t hstep
  · cases hstep
    exact hqueue s.pending

section
variable {s : State} (hs : s.LinkSafe)
include hs

/-! ## Operations that leave the controller alone but for the move -/

theorem State.LinkSafe.enterSafe (c : FaultCause) : (s.enterSafe c).LinkSafe := by
  refine State.LinkSafe.move (hs.congr (by simp) ?_ ?_) <;>
    rw [State.notify_ssv, State.goSafe_ssv]
  · rfl
  · intro h
    cases h

theorem State.LinkSafe.classA (c : FaultCause) : (s.classA c).LinkSafe := by
  unfold State.classA
  split
  · exact hs
  · exact hs.enterSafe c
  · exact hs.enterSafe c
  · exact hs.congr rfl rfl id

theorem State.LinkSafe.measureExpired : s.measureExpired.LinkSafe := by
  unfold State.measureExpired
  split
  · exact hs
  · exact hs.classA _
  · exact hs.classA _
  · split
    · exact hs
    · exact hs.congr rfl rfl id

theorem State.LinkSafe.reportSent (f : OwnFrame) : (s.reportSent f).LinkSafe := by
  simp only [State.reportSent]
  split
  · exact hs.congr rfl rfl fun h => by cases h
  · exact hs.congr rfl rfl id

theorem State.LinkSafe.resumeJoin : s.resumeJoin.LinkSafe := by
  have hcleared : { s with slc := { s.slc with echoRun := 0 } : State }.LinkSafe := { hs with }
  refine State.LinkSafe.move (hcleared.congr rfl rfl ?_)
  intro h
  cases h

theorem State.LinkSafe.dropFrame (f : TransmitFrame) : (s.dropFrame f).LinkSafe := by
  have hdropped : (s.frameDropped f).LinkSafe := hs.dropOwn.congr rfl rfl id
  rw [State.dropFrame_eq]
  split
  · exact (hdropped.classA _).move
  · exact hdropped.move

theorem State.LinkSafe.judge (m : Monitor) (slip : Nat) : (s.judge m slip).LinkSafe := by
  unfold State.judge
  split
  · split
    · exact State.LinkSafe.move (hs.of_eq rfl rfl)
    · exact hs.of_eq rfl rfl
  · exact hs.of_eq rfl rfl

theorem State.LinkSafe.sample : s.sample.LinkSafe := by
  unfold State.sample
  extract_lets m
  split
  · exact hs.of_eq rfl rfl
  · split
    · exact hs.of_eq rfl rfl
    · exact hs.judge _ _

theorem State.LinkSafe.acceptMeasure (r : MeasureRecord) : (s.acceptMeasure r).LinkSafe := by
  have hnoted : (s.measureNoted r).LinkSafe :=
    hs.congr (by simp [State.measureNoted]) (by simp [State.measureNoted]) (by simp [State.measureNoted])
  rw [State.acceptMeasure_eq]
  split
  · exact hnoted.of_eq (by simp) (by simp)
  · exact hnoted.of_eq (by simp) (by simp)

theorem State.LinkSafe.acceptSetup (c : Setup) : (s.acceptSetup c).LinkSafe := by
  refine hs.congr (by simp) rfl ?_
  intro h
  cases h

/-! ## What is sent at the start of an exchange (R50, R159) -/

theorem State.LinkSafe.sendPeerView (n : StationNumber) : (s.sendPeerView n).LinkSafe := by
  have hcleared : { s with slc := s.slc.clearCounters : State }.LinkSafe := { hs with }
  unfold State.sendPeerView
  split
  · exact hs.of_eq rfl rfl
  · split
    · exact hcleared.of_eq rfl rfl
    · exact hs.of_eq rfl rfl

theorem State.LinkSafe.sendReply (r : Reply) : (s.sendReply r).LinkSafe := by
  have hemptied : { s with lpt := { s.lpt with reply := none } : State }.LinkSafe := hs.of_eq rfl rfl
  cases r with
  | ack k => exact hs.of_eq rfl rfl
  | refuse k reason i => exact hs.of_eq rfl rfl
  | notice => exact hemptied.of_eq (State.sendNotice_slc _) (State.sendNotice_ssv _)
  | peerView n => exact hemptied.sendPeerView n

/-! ## Frames of the other stations (R44 to R46, R80, R81) -/

theorem State.LinkSafe.deliver {α : Type} (h : FrameHeader) (content : Option α) {apply : StationNumber → α → State}
    (happly : ∀ n c, (apply n c).LinkSafe) : (s.deliver h content apply).LinkSafe := by
  unfold State.deliver
  split
  · exact hs
  · split
    · exact hs.classA _
    · cases motorSender h with
      | none => exact hs.countMisplaced
      | some n =>
        cases content with
        | none => exact hs.countMisplaced
        | some c => exact happly n c

theorem State.LinkSafe.deliverDemand (h : FrameHeader) (p : DemandPayload) : (s.deliverDemand h p).LinkSafe := by
  unfold State.deliverDemand
  split
  · exact hs
  · split
    · exact hs.countMisplaced
    · exact hs.of_eq (by simp) (by simp)

theorem State.LinkSafe.heard (hhears : s.slc.hears = true) : s.endReception.LinkSafe :=
  hs.endReception hhears true s.slc.crcErrors

theorem execMotorFrame_linkKept {h : FrameHeader} {c : Instr}
    (hc : (∃ p, c = .statusFrame h p) ∨ (∃ p, c = .slipAlertFrame h p) ∨ ∃ p, c = .faultFrame h p) :
    Keeps State.LinkSafe (exec c s) := by
  rcases hc with ⟨p, rfl⟩ | ⟨p, rfl⟩ | ⟨p, rfl⟩
  · refine .guarded hs fun hhears => ?_
    rw [State.deliverStatus_eq]
    exact (hs.heard hhears).deliver _ _ fun n c => (hs.heard hhears).of_eq (by simp) (by simp)
  · refine .guarded hs fun hhears => ?_
    rw [State.deliverSlipAlert_eq]
    exact (hs.heard hhears).deliver _ _ fun n c => (hs.heard hhears).of_eq (by simp) (by simp)
  · refine .guarded hs fun hhears => ?_
    rw [State.deliverFault_eq]
    exact (hs.heard hhears).deliver _ _ fun n c => (hs.heard hhears).of_eq (by simp) (by simp)

/-! ## Commands of the local port -/

theorem execExchangeStart_linkKept : Keeps State.LinkSafe (execExchangeStart s) := by
  unfold execExchangeStart
  split
  · exact .next hs
  · split
    · exact .next (hs.sendReply _)
    · exact .next (hs.of_eq rfl rfl)

theorem State.LinkSafe.endExchange : s.endExchange.LinkSafe := hs.of_eq rfl rfl

theorem State.LinkSafe.place (r : Reply) : (s.place r).LinkSafe := hs.of_eq rfl rfl

theorem State.LinkSafe.refuse (k : RecordKind) (r : Reason) (i : Option Nat) : (s.refuse k r i).LinkSafe := hs.of_eq rfl rfl

theorem execSetup_linkKept (r : SetupRecord) : Keeps State.LinkSafe (execSetup r s) := by
  unfold execSetup
  split
  · split
    · exact .next (hs.endExchange.refuse ..)
    · split
      · exact .next (hs.endExchange.refuse ..)
      · split
        · exact .next (hs.endExchange.refuse ..)
        · exact .next (hs.endExchange.acceptSetup _)
  · exact .next hs

theorem execMeasure_linkKept (r : MeasureRecord) : Keeps State.LinkSafe (execMeasure r s) := by
  unfold execMeasure
  split
  · split
    · exact .next (hs.endExchange.refuse ..)
    · exact .next (hs.endExchange.acceptMeasure r)
  · exact .next hs

theorem execReadPeer_linkKept (station : Byte) : Keeps State.LinkSafe (execReadPeer station s) := by
  unfold execReadPeer
  split
  · split
    · exact .next (hs.endExchange.place _)
    · exact .next (hs.endExchange.refuse ..)
  · exact .next hs

theorem execSafeRequest_linkKept : Keeps State.LinkSafe (execSafeRequest s) := by
  unfold execSafeRequest
  split
  · split
    · exact .next (hs.endExchange.refuse ..)
    · exact .next ((hs.endExchange.classA _).place _)
  · exact .next hs

theorem execResume_linkKept : Keeps State.LinkSafe (execResume s) := by
  unfold execResume
  split
  · split
    · exact .next (hs.endExchange.refuse ..)
    · split
      · exact .next (hs.endExchange.refuse ..)
      · exact .next (hs.endExchange.resumeJoin.place _)
  · exact .next hs

theorem execLinkResetRequest_linkKept : Keeps State.LinkSafe (execLinkResetRequest s) := by
  unfold execLinkResetRequest
  split
  · split
    · exact .next (hs.endExchange.refuse ..)
    · rename_i hmode
      split
      · exact .next (hs.endExchange.refuse ..)
      · rename_i hidle
        exact .next ((hs.requestReset hmode fun hline => hidle (.inl hline)).of_eq rfl rfl)
  · exact .next hs

/-! ## Events of the share link -/

theorem execClaimWon_linkKept : Keeps State.LinkSafe (execClaimWon s) := by
  unfold execClaimWon
  split
  · rename_i f hf
    exact .guarded hs fun ⟨hline, hclaim⟩ => hs.winClaim hline hclaim hf
  · exact .next hs

theorem execClaimLost_linkKept (slot : Fin 16) : Keeps State.LinkSafe (execClaimLost slot s) := by
  unfold execClaimLost
  split
  · exact .guarded hs fun ⟨hline, hclaim, _⟩ => hs.claimLost hline hclaim _
  · exact .next hs

theorem execFrameSent_linkKept : Keeps State.LinkSafe (execFrameSent s) := by
  unfold execFrameSent
  split
  · exact .guarded hs fun ⟨hline, _⟩ => ((hs.sent hline).reportSent _).move
  · exact .next hs

theorem execEchoCheckFailed_linkKept : Keeps State.LinkSafe (execEchoCheckFailed s) := by
  unfold execEchoCheckFailed
  split
  · rename_i f hf
    split
    · rename_i hclaim
      split
      · exact .next (hs.abortOwn hclaim hf)
      · exact .next (hs.dropFrame f)
    · exact .next hs
  · exact .next hs

theorem execLinkResetSeen_linkKept : Keeps State.LinkSafe (execLinkResetSeen s) := by
  unfold execLinkResetSeen
  split
  · exact .next hs
  · exact .next hs.linkReset

/-! ## Timers and computations -/

theorem execMeasureTimerExpiry_linkKept : Keeps State.LinkSafe (execMeasureTimerExpiry s) := by
  have hrestarted : { s with
      ssv := { s.ssv with measureTimer := .running s.config.measureTimeout } : State }.LinkSafe := hs.congr rfl rfl id
  exact .guarded hs fun _ => hrestarted.measureExpired

theorem execInterimTimerExpiry_linkKept : Keeps State.LinkSafe (execInterimTimerExpiry s) := by
  unfold execInterimTimerExpiry
  split
  · exact .next (hs.of_eq rfl rfl)
  · exact .next hs
  · exact .next hs

theorem execComputationCompletion_linkKept : Keeps State.LinkSafe (execComputationCompletion s) := by
  unfold execComputationCompletion
  split
  · exact .next (hs.of_eq (by simp) (by simp))
  · exact .next hs
  · exact .next hs

/-- Every command keeps the Share Link Controller consistent. -/
theorem exec_linkKept (i : Instr) : Keeps State.LinkSafe (exec i s) := by
  cases i with
  | partReset powerOn stn0 stn1 stn2 => exact .next (State.afterReset_linkSafe ..)
  | exchangeStart => exact execExchangeStart_linkKept hs
  | shortExchange wholeBytes => exact .guarded hs fun _ => hs.endExchange.place _
  | checkByteFail => exact .guarded hs fun _ => hs.endExchange.place _
  | unknownRecordKind code => exact .guarded hs fun _ => hs.endExchange.place _
  | setup r => exact execSetup_linkKept hs r
  | measure r => exact execMeasure_linkKept hs r
  | takeNotice => exact .guarded hs fun _ => hs.endExchange.place _
  | readPeer station => exact execReadPeer_linkKept hs station
  | safeRequest => exact execSafeRequest_linkKept hs
  | resume => exact execResume_linkKept hs
  | linkResetRequest => exact execLinkResetRequest_linkKept hs
  | nop => exact .guarded hs fun _ => hs.endExchange
  | windowStart => exact .guarded hs hs.windowStart
  | claimWon => exact execClaimWon_linkKept hs
  | claimLost slot => exact execClaimLost_linkKept hs slot
  | frameStart => exact .guarded hs fun ⟨_, hclaim⟩ => hs.frameStart hclaim
  | busFreeTime => exact .guarded hs fun hfree => (hs.becomeFree (s.slc.canFree_iff.mp hfree).2.2).move
  | demandFrame h p => exact .guarded hs fun hhears => (hs.heard hhears).deliverDemand h p
  | statusFrame h p => exact execMotorFrame_linkKept hs (.inl ⟨p, rfl⟩)
  | slipAlertFrame h p => exact execMotorFrame_linkKept hs (.inr (.inl ⟨p, rfl⟩))
  | faultFrame h p => exact execMotorFrame_linkKept hs (.inr (.inr ⟨p, rfl⟩))
  | receiveError cause => exact .guarded hs fun hhears => hs.endReception hhears (errorAtLength cause) _
  | frameSent => exact execFrameSent_linkKept hs
  | echoCheckFailed => exact execEchoCheckFailed_linkKept hs
  | resetDriveBegin =>
    exact .guarded hs fun ⟨hpending, _⟩ => hs.withDrive (by simp [hpending]) (by decide)
  | linkResetSeen => exact execLinkResetSeen_linkKept hs
  | resetDriveRelease =>
    exact .guarded hs fun hdriving => (hs.withDrive (by simp [hdriving]) (by decide)).move
  | resettingReleased => exact .guarded hs fun ⟨hline, _⟩ => hs.resettingReleased hline
  | publishTimerExpiry => exact .guarded hs fun _ => State.LinkSafe.move (hs.of_eq rfl rfl)
  | demandTimerExpiry => exact .guarded hs fun _ => hs.of_eq (by simp) (by simp)
  | silenceTimerExpiry peer => exact .guarded hs fun _ => hs.of_eq (by simp) (by simp)
  | measureTimerExpiry => exact execMeasureTimerExpiry_linkKept hs
  | computationCompletion => exact execComputationCompletion_linkKept hs
  | toothEdge ch time => exact .guarded hs fun _ => hs.of_eq rfl rfl
  | stopTimerExpiry ch => exact .guarded hs fun _ => hs.of_eq rfl rfl
  | slipSample => exact .guarded hs fun _ => hs.sample
  | settleTimerExpiry => exact .guarded hs fun _ => hs.of_eq rfl rfl
  | gripRecoveryExpiry => exact .guarded hs fun _ => hs.of_eq (by simp) (by simp)
  | capRecoveryExpiry => exact .guarded hs fun _ => hs.of_eq (by simp) (by simp)
  | interimTimerExpiry => exact execInterimTimerExpiry_linkKept hs
  | millisecondTick => exact .next (hs.of_eq rfl rfl)

end

/-- Settles O58: the queue is no item of the link, and every command keeps the controller consistent. -/
theorem linkStaysSafe : Obligations.LinkStaysSafe := by
  unfold Obligations.LinkStaysSafe
  intro s t hs hstep
  exact step_keeps (fun _ => hs.of_eq rfl rfl) (fun i _ hu => exec_linkKept hu i) hstep

end Sys2Proof.Machine
end

section
/-! PROOFS. Events out of place (O3), and the events of the share link (O18 to O25). -/

namespace Sys2Proof.Machine

section
variable {s : State}

/-! ## Events out of place (log 2) -/

theorem Timer.not_running {timer : Timer} (h : timer = .stopped) : ¬timer.isRunning = true := by simp [h, Timer.isRunning]

/-- A record ends only an exchange in progress (R158, R160). -/
theorem exec_record_atRest (hrest : s.lpt.inExchange = false) (c : Instr)
    (hc : c = .takeNotice ∨ c = .safeRequest ∨ c = .resume ∨ c = .linkResetRequest ∨ c = .nop ∨ c = .checkByteFail ∨
      (∃ k, c = .shortExchange k) ∨ (∃ b, c = .unknownRecordKind b) ∨ (∃ b, c = .readPeer b) ∨ (∃ r, c = .setup r) ∨
      (∃ r, c = .measure r)) : exec c s = .next s := by
  have hout : ¬s.lpt.inExchange = true := by simp [hrest]
  rcases hc with rfl | rfl | rfl | rfl | rfl | rfl | ⟨_, rfl⟩ | ⟨_, rfl⟩ | ⟨_, rfl⟩ | ⟨_, rfl⟩ | ⟨_, rfl⟩ <;>
    exact if_neg hout

/-- A frame, or its receive error, ends only a reception (R79, R80). -/
theorem exec_frame_unheard (hdeaf : ¬s.slc.hears = true) (c : Instr)
    (hc : (∃ h p, c = .demandFrame h p) ∨ (∃ h p, c = .statusFrame h p) ∨ (∃ h p, c = .slipAlertFrame h p) ∨
      (∃ h p, c = .faultFrame h p) ∨ (∃ e, c = .receiveError e)) : exec c s = .next s := by
  rcases hc with ⟨_, _, rfl⟩ | ⟨_, _, rfl⟩ | ⟨_, _, rfl⟩ | ⟨_, _, rfl⟩ | ⟨_, rfl⟩ <;> exact if_neg hdeaf

theorem exec_claimWon_out (h : ¬(s.slc.line = .window ∧ s.slc.claim = .contending)) : exec .claimWon s = .next s := by
  change execClaimWon s = _
  unfold execClaimWon
  split
  · exact if_neg h
  · rfl

theorem exec_claimLost_out (h : ¬(s.slc.line = .window ∧ s.slc.claim = .contending)) (slot : Fin 16) :
    exec (.claimLost slot) s = .next s := by
  change execClaimLost slot s = _
  unfold execClaimLost
  split
  · exact if_neg fun ⟨hline, hclaim, _⟩ => h ⟨hline, hclaim⟩
  · rfl

theorem exec_frameSent_out (h : ¬(s.slc.line = .frame ∧ s.slc.claim = .sending)) : exec .frameSent s = .next s := by
  change execFrameSent s = _
  unfold execFrameSent
  split
  · exact if_neg h
  · rfl

theorem exec_echoCheckFailed_out (h : s.slc.claim ≠ .sending) : exec .echoCheckFailed s = .next s := by
  change execEchoCheckFailed s = _
  unfold execEchoCheckFailed
  split
  · exact if_neg h
  · rfl

theorem exec_computationCompletion_idle (h : s.spe.state = .idle) : exec .computationCompletion s = .next s := by
  change execComputationCompletion s = _
  simp only [execComputationCompletion, h]

theorem exec_interimTimerExpiry_out (h : s.lpt.interim = .stopped ∨ s.lpt.interim = .expired) :
    exec .interimTimerExpiry s = .next s := by
  change execInterimTimerExpiry s = _
  rcases h with h | h <;> simp only [execInterimTimerExpiry, h]

/-- A PENDING drive begins in FREE, or behind a reception that ended at its length (R86). -/
theorem exec_resetDriveBegin_out (h : s.slc.resetDrive ≠ .pending ∨ s.slc.line = .busyUnknown ∨ s.slc.line = .window ∨
    s.slc.line = .resetting ∨ (s.slc.line = .frame ∧ s.slc.reception ≠ .ended true)) :
    exec .resetDriveBegin s = .next s := by
  refine if_neg ?_
  rintro ⟨hpending, hmoment⟩
  rcases h with h | h | h | h | ⟨h, hshort⟩
  · exact h hpending
  all_goals simp_all

end

/-- Settles O3: the guard of each command fails where its event cannot occur. -/
theorem eventsOutOfPlaceChangeNothing : Obligations.EventsOutOfPlaceChangeNothing := by
  unfold Obligations.EventsOutOfPlaceChangeNothing
  intro s
  refine ⟨
    -- The local port and the receptions
    fun hbusy => if_pos hbusy, exec_record_atRest, fun hdeaf => exec_frame_unheard ?_,
    -- The claim windows and the own frame
    fun hline => if_neg hline, fun hout => if_neg ?_, fun hout => ⟨exec_claimWon_out ?_, exec_claimLost_out ?_⟩,
    fun hout => exec_frameSent_out ?_, exec_echoCheckFailed_out,
    -- The return to FREE and the link reset
    fun hout => if_neg ?_, exec_resetDriveBegin_out, fun hdrive => if_neg hdrive, fun hline => if_pos hline,
    fun hout => if_neg ?_,
    -- The timers and the computation
    fun hstop => if_neg (Timer.not_running hstop), fun hstop => if_neg (Timer.not_running hstop),
    fun n hstop => if_neg (Timer.not_running hstop), fun hstop => if_neg (Timer.not_running hstop),
    exec_computationCompletion_idle, fun hstop => if_neg (Timer.not_running hstop),
    fun hstop => if_neg (Timer.not_running hstop), fun hstop => if_neg ?_, fun hstop => if_neg (Timer.not_running hstop),
    fun hstop => if_neg (Timer.not_running hstop), fun hstop => if_neg (Timer.not_running hstop),
    exec_interimTimerExpiry_out⟩
  · rw [LinkController.hears_iff]
    tauto
  · tauto
  · tauto
  · tauto
  · tauto
  · rw [LinkController.canFree_iff]
    rcases hout with h | h | h | h <;> simp [h]
  · tauto
  · rcases hstop with h | h <;> simp [h, Timer.isRunning]

/-! ## Link resets asked for, and the moves of the line (R71, R72, R74, R86) -/

/-- Settles O18, through the three guards of the command. -/
theorem linkResetRequestAccepted : Obligations.LinkResetRequestAccepted := by
  unfold Obligations.LinkResetRequestAccepted
  intro s hexchange hmode hline hdrive
  have hidle : ¬(s.slc.line = .resetting ∨ s.slc.resetDrive ≠ .none) := by simp [hline, hdrive]
  change execLinkResetRequest s = _
  rw [execLinkResetRequest, if_pos hexchange, if_neg hmode, if_neg hidle]
  rfl

/-- Settles O19: each move is what its command does where its guard holds. -/
theorem lineStateMoves : Obligations.LineStateMoves := by
  unfold Obligations.LineStateMoves
  intro s
  exact ⟨fun hline => if_pos hline, fun hline hclaim => if_pos ⟨hline, hclaim⟩, fun hline hdrive => if_pos ⟨hline, hdrive⟩,
    fun hpending hline => if_pos ⟨hpending, .inl hline⟩,
    fun hpending hline hended => if_pos ⟨hpending, .inr ⟨hline, hended⟩⟩⟩

/-! ## Claims (R69, R76, R77, R101) -/

section
variable {s : State} {f : TransmitFrame} (hline : s.slc.line = .window) (hclaim : s.slc.claim = .contending)
  (hf : s.slc.transmit = some f)
include hline hclaim hf

theorem exec_claimWon : exec .claimWon s = .next (s.winClaim f) := by
  change execClaimWon s = _
  unfold execClaimWon
  rw [hf]
  exact if_pos ⟨hline, hclaim⟩

theorem exec_claimLost {slot : Fin 16} (hslot : slot.val < claimSlot s.ssv.ownNumber f.frame) :
    exec (.claimLost slot) s =
      .next { s with slc := { s.slc with claim := .waiting, lostClaims := countUp s.slc.lostClaims } } := by
  change execClaimLost slot s = _
  unfold execClaimLost
  rw [hf]
  exact if_pos ⟨hline, hclaim, hslot⟩

end

section
variable {s : State} {f : TransmitFrame}

theorem State.winClaim_first (h : f.seq = none) :
    s.winClaim f =
      { s with
        slc := { s.slc with claim := .sending, transmit := some (f.number s.ssv.ownNumber s.fsc.ownSeq) }
        fsc := { s.fsc with ownSeq := s.fsc.ownSeq + 1 } } := by
  simp only [State.winClaim, h]

theorem State.winClaim_retry (h : f.seq ≠ none) :
    s.winClaim f = { s with slc := { s.slc with claim := .sending } } := by
  obtain ⟨q, hq⟩ := Option.ne_none_iff_exists'.mp h
  simp only [State.winClaim, hq]

/-- A claim won leaves the frame in the transmit buffer, and touches neither the line nor the reset drive. -/
theorem State.winClaim_link (hf : s.slc.transmit = some f) :
    (s.winClaim f).slc.claim = .sending ∧ (s.winClaim f).slc.line = s.slc.line ∧
      (s.winClaim f).slc.resetDrive = s.slc.resetDrive ∧
      ∃ g, (s.winClaim f).slc.transmit = some g ∧ g.frame = f.frame := by
  by_cases h : f.seq = none
  · rw [State.winClaim_first h]
    exact ⟨rfl, rfl, rfl, _, rfl, rfl⟩
  · rw [State.winClaim_retry h]
    exact ⟨rfl, rfl, rfl, f, hf, rfl⟩

/-- Only a contender in FREE and a station that has won its claim drive the line, but for a reset. -/
theorem State.drive_nothing (hdrive : s.slc.resetDrive ≠ .driving)
    (h : s.slc.claim = .contending ∧ s.slc.line = .window ∨ s.slc.claim = .waiting) : s.drive = .nothing := by
  rcases h with ⟨hclaim, hline⟩ | hclaim <;> cases hf : s.slc.transmit <;> simp_all [State.drive]

theorem State.drive_claimPulse (hdrive : s.slc.resetDrive ≠ .driving) (hclaim : s.slc.claim = .sending)
    (hline : s.slc.line = .window) (hf : s.slc.transmit = some f) :
    s.drive = .claimPulse (claimSlot s.ssv.ownNumber f.frame) := by
  simp [State.drive, hdrive, hclaim, hline, hf]

/-- From its frame start on the winner drives its frame (R72, R77). -/
theorem State.drive_frameStarted {started : State} (hdrive : s.slc.resetDrive ≠ .driving) (hclaim : s.slc.claim = .sending)
    (hline : s.slc.line = .window) (hf : s.slc.transmit = some f) {bytes : List Byte}
    (hbytes : f.bytes s.ssv.ownNumber = some bytes) (hstart : exec .frameStart s = .next started) :
    started.drive = .ownFrame (bytes.flatMap byteLevels) := by
  have hcan : s.slc.line = .window ∧ s.slc.claim ≠ .contending := ⟨hline, by simp [hclaim]⟩
  cases (if_pos hcan : exec .frameStart s = _).symm.trans hstart
  simp [State.drive, TransmitFrame.levels, hdrive, hclaim, hf, hbytes]

end

/-- Settles O20: the outcome of each claim, and what its station drives then. -/
theorem claimsWonAndLost : Obligations.ClaimsWonAndLost := by
  unfold Obligations.ClaimsWonAndLost
  intro f s hline hclaim hf own
  have hown : own = claimSlot s.ssv.ownNumber f.frame := rfl
  have hwin := exec_claimWon hline hclaim hf
  refine ⟨fun hfirst => ?_, fun hretry => ?_, fun slot hslot => ?_, fun hdrive => ⟨?_, ?_, ?_⟩⟩
  · rw [hwin, State.winClaim_first hfirst]
    rfl
  · rw [hwin, State.winClaim_retry hretry]
  · exact exec_claimLost hline hclaim hf (hown ▸ hslot)
  · exact State.drive_nothing hdrive (.inl ⟨hclaim, hline⟩)
  · intro won hwon
    cases hwin.symm.trans hwon
    obtain ⟨hsending, hwindow, hreset, g, hg, hframe⟩ := State.winClaim_link hf
    have hdrive' : (s.winClaim f).slc.resetDrive ≠ .driving := hreset ▸ hdrive
    refine ⟨?_, ?_⟩
    · rw [State.drive_claimPulse hdrive' hsending (hwindow.trans hline) hg, State.winClaim_ssv, hframe, hown]
    · intro started hstart u bytes hu hbytes
      rw [← State.winClaim_ssv s f] at hbytes
      exact State.drive_frameStarted hdrive' hsending (hwindow.trans hline) hu hbytes hstart
  · intro slot lost hslot hlost
    cases (exec_claimLost hline hclaim hf (hown ▸ hslot)).symm.trans hlost
    exact State.drive_nothing hdrive (.inr rfl)

/-! ## The end of a reception (R73, R79, R82) -/

/-- Settles O21, by what FREE does to the controller. -/
theorem busFreeTime : Obligations.BusFreeTime := by
  unfold Obligations.BusFreeTime
  intro s hline hdrive hclaim
  have hfree : s.slc.canFree = true := s.slc.canFree_iff.mpr ⟨hline, hdrive, hclaim⟩
  change execBusFreeTime s = _
  rw [execBusFreeTime, if_pos hfree, LinkController.becomeFree_eq]

theorem errorAtLength_eq (cause : ReceiveErrorCause) : errorAtLength cause = decide (cause = .crcMismatch) := by
  cases cause <;> rfl

/-- Settles O22, for a reception that is heard. -/
theorem receiveErrorCounted : Obligations.ReceiveErrorCounted := by
  unfold Obligations.ReceiveErrorCounted
  intro cause s hline hreception hclaim
  change execReceiveError cause s = _
  rw [execReceiveError, if_pos (LinkController.hears_of hline hreception hclaim), errorAtLength_eq]
  rfl

/-! ## An own frame sent in full (R85, R102, R119, R147) -/

theorem exec_frameSent {s : State} {f : TransmitFrame} (hline : s.slc.line = .frame) (hclaim : s.slc.claim = .sending)
    (hf : s.slc.transmit = some f) :
    exec .frameSent s = .next ({ s with slc := s.slc.sent : State }.reportSent f.frame).move := by
  change execFrameSent s = _
  unfold execFrameSent
  rw [hf]
  exact if_pos ⟨hline, hclaim⟩

section
variable {s : State}

/-- A report that leaves the join short of three moves the own join count only. -/
theorem State.reportSent_short {f : OwnFrame} {n : Nat} (hn : joinCountAfter s.ssv.mode s.ssv.joinCount f = n)
    (hshort : s.ssv.mode = .announcing → n ≤ 2) : s.reportSent f = { s with ssv := { s.ssv with joinCount := n } } := by
  subst hn
  refine if_neg ?_
  rintro ⟨hmode, hthird⟩
  have hle := hshort hmode
  simp only [Config.joinFrames] at hthird
  omega

theorem State.reportSent_third {f : OwnFrame} (hmode : s.ssv.mode = .announcing)
    (hthird : joinCountAfter s.ssv.mode s.ssv.joinCount f = 3) :
    s.reportSent f = { s with ssv := { s.ssv with joinCount := 3 } : State }.enterSharing := by
  simp only [State.reportSent, hthird]
  exact if_pos ⟨hmode, le_rfl⟩

/-- A waiting STATUS replaced in a configured mode (R95). -/
theorem State.replaceRoutine_eq {health : Health} (h : healthOf s.ssv.mode = some health) :
    s.replaceRoutine = { s with fsc := { s.fsc with routine := s.fsc.routine.map fun _ => ⟨health, s.figures⟩ } } := by
  cases hroutine : s.fsc.routine <;> simp [State.replaceRoutine, State.assemble, hroutine, h]

end

theorem Monitor.enter_eq (m : Monitor) (cfg : Setup) (sense : Sense) :
    m.enter cfg sense =
      { m with
        lastSense := sense
        sampleTimer := .running cfg.slipSampleInterval
        state :=
          if cfg.settleTime = 0 then (if m.grip = 16 ∧ m.slipCap = none then .watching else .recovering) else .settling
        settleTimer := if cfg.settleTime = 0 then .stopped else .running cfg.settleTime } := by
  by_cases h : cfg.settleTime = 0 <;>
    simp [Monitor.enter, Monitor.startSettling, Monitor.settleExpiry, Monitor.recovered, Config.fullGrip, h]

/-- Settles O23, by what the frame sent does to the own join count. -/
theorem frameSent : Obligations.FrameSent := by
  unfold Obligations.FrameSent
  intro f s hline hclaim hf sent
  have hexec : exec .frameSent s = .next (sent.reportSent f.frame).move := exec_frameSent hline hclaim hf
  rw [hexec]
  refine ⟨fun hmode => ?_, fun a hmode hcount hframe => ?_, fun hmode hframe => ?_, fun p hmode hframe hcount => ?_,
    fun p hmode hframe hcount => ?_⟩
  · rw [State.reportSent_short (s := sent) (if_neg hmode) fun h => absurd h hmode]
  · rw [State.reportSent_short (s := sent) (n := s.ssv.joinCount) (by simp [sent, joinCountAfter, hmode, hframe])
      fun _ => hcount]
  · have hzero : joinCountAfter sent.ssv.mode sent.ssv.joinCount f.frame = 0 := by
      rcases hframe with ⟨c, hframe⟩ | ⟨p, hframe⟩ <;> simp [sent, joinCountAfter, hmode, hframe]
    rw [State.reportSent_short hzero fun _ => Nat.zero_le _]
  · rw [State.reportSent_short (s := sent) (n := s.ssv.joinCount + 1) (by simp [sent, joinCountAfter, hmode, hframe])
      fun _ => Nat.succ_le_succ hcount]
  · intro settled sharing
    rw [State.reportSent_third (s := sent) hmode (by simp [sent, joinCountAfter, hmode, hframe, hcount])]
    refine congrArg (fun u : State => Host.Outcome.next u.move) ?_
    unfold State.enterSharing
    rw [State.replaceRoutine_eq rfl, Monitor.enter_eq]

/-! ## An echo failure (R82 to R84) -/

section
variable {s : State} {f : TransmitFrame} (hclaim : s.slc.claim = .sending) (hf : s.slc.transmit = some f)
include hclaim hf

theorem exec_echoCheckFailed_first (h : f.echoFailures = 0) :
    exec .echoCheckFailed s = .next { s with slc := s.slc.abortOwn f } := by
  change execEchoCheckFailed s = _
  unfold execEchoCheckFailed
  simp only [hf, hclaim, h, if_true]

theorem exec_echoCheckFailed_second (h : f.echoFailures ≠ 0) : exec .echoCheckFailed s = .next (s.dropFrame f) := by
  change execEchoCheckFailed s = _
  unfold execEchoCheckFailed
  simp only [hf, hclaim, h, if_true, if_false]

end

/-- Settles O24, by the first and the second failure. -/
theorem echoCheckFailed : Obligations.EchoCheckFailed := by
  unfold Obligations.EchoCheckFailed
  intro f s hclaim hf
  refine ⟨exec_echoCheckFailed_first hclaim hf, fun hsecond => ?_⟩
  intro dropped
  have hdropped : s.frameDropped f = dropped := rfl
  rw [exec_echoCheckFailed_second hclaim hf hsecond, State.dropFrame_eq, hdropped]
  refine ⟨fun hrun => ?_, fun hrun => ?_⟩
  · rw [if_neg (by simpa [Config.muteRun] using hrun)]
  · rw [if_pos (by simp [Config.muteRun, hrun])]

/-! ## A link reset seen (R87) -/

/-- Settles O25: each block's own reset, written out. -/
theorem linkResetSeen : Obligations.LinkResetSeen := by
  unfold Obligations.LinkResetSeen
  intro s hline
  change execLinkResetSeen s = _
  rw [execLinkResetSeen, if_neg hline]
  rfl

end Sys2Proof.Machine
end

section
/-! PROOFS. A reception from its bytes: each receive error, and each good frame field by field (R78, R79, 10.2). -/

namespace Sys2Proof.Machine

/-! ## Fields of a string of bytes (R176) -/

section
variable {bs : List Byte} {n k : Nat}

theorem byteAt_take (h1 : 1 ≤ k) (hk : k ≤ n) : byteAt (bs.take n) k = byteAt bs k := by
  simp only [byteAt, List.getD_eq_getElem?_getD]
  rw [List.getElem?_take_of_lt (by omega)]

theorem halfAt_take (h1 : 1 ≤ k) (hk : k + 1 ≤ n) : halfAt (bs.take n) k = halfAt bs k := by
  rw [halfAt, halfAt, byteAt_take (by omega) hk, byteAt_take h1 (by omega)]

end

theorem classOf_bit (b : Byte) : classOf (b.extractLsb' 4 1) = if b.getLsbD 4 then .routine else .urgent := by
  have hbit : b.extractLsb' 4 1 = BitVec.ofBool (b.getLsbD 4) := by
    apply BitVec.eq_of_getLsbD_eq
    intro i hi
    obtain rfl : i = 0 := by omega
    simp
  rw [hbit, classOf]
  cases b.getLsbD 4 <;> rfl

/-! ## The length of a frame (R78) -/

theorem frameLength_of_kind {kind : Byte} {n : Nat}
    (h : (kind = 0x51 ∧ n = 8) ∨ (kind = 0x52 ∧ n = 18) ∨ (kind = 0x53 ∧ n = 12) ∨ (kind = 0x54 ∧ n = 6)) :
    frameLength kind = some n := by
  rcases h with ⟨rfl, rfl⟩ | ⟨rfl, rfl⟩ | ⟨rfl, rfl⟩ | ⟨rfl, rfl⟩ <;> rfl

theorem frameLength_of_unknown {kind : Byte} (h1 : kind ≠ demandKind) (h2 : kind ≠ statusKind)
    (h3 : kind ≠ slipAlertKind) (h4 : kind ≠ faultKind) : frameLength kind = none := by
  rw [frameLength, if_neg h1, if_neg h2, if_neg h3, if_neg h4]

theorem ne_nil_of_frameLength {bs : List Byte} {n : Nat} (hn : frameLength (byteAt bs 1) = some n) : bs ≠ [] := by
  rintro rfl
  cases hn

theorem expectedLength_of_ne_nil {bs : List Byte} (h : bs ≠ []) :
    expectedLength bs = (frameLength (byteAt bs 1)).getD 1 := by
  cases bs with
  | nil => exact absurd rfl h
  | cons b bs => rfl

/-! ## Receive errors (R79) -/

/-- The error of a reception short of its length. -/
def shortError (stopped : Bool) : Instr := .receiveError (if stopped then .dominantStop else .shortFrame)

section
variable {bs : List Byte} (stopped : Bool)

/-- A dominant stop bit counts only before the expected length is in. -/
theorem receptionCommand_of_length (h : expectedLength bs ≤ bs.length) : receptionCommand bs stopped = frameCommand bs :=
  if_neg fun hstop => Nat.not_lt.mpr h hstop.2

theorem receptionCommand_of_short (h : bs.length < expectedLength bs)
    (hshort : frameCommand bs = .receiveError .shortFrame) : receptionCommand bs stopped = shortError stopped := by
  cases stopped with
  | false => exact (receptionCommand_good bs).trans hshort
  | true => exact if_pos ⟨rfl, h⟩

theorem receptionCommand_nil : receptionCommand [] stopped = shortError stopped :=
  receptionCommand_of_short stopped (Nat.zero_lt_one) rfl

theorem receptionCommand_unknown (hne : bs ≠ []) (h : frameLength (byteAt bs 1) = none) :
    receptionCommand bs stopped = .receiveError .unknownKind := by
  have hlength : expectedLength bs ≤ bs.length := by
    rw [expectedLength_of_ne_nil hne, h]
    exact List.length_pos_iff.mpr hne
  rw [receptionCommand_of_length stopped hlength, frameCommand, if_neg hne]
  simp only [h]

variable {n : Nat} (hn : frameLength (byteAt bs 1) = some n)
include hn

theorem expectedLength_of_frameLength : expectedLength bs = n := by
  rw [expectedLength_of_ne_nil (ne_nil_of_frameLength hn), hn]
  rfl

theorem frameCommand_of_frameLength :
    frameCommand bs =
      if bs.length < n then .receiveError .shortFrame
      else if crc16 (bs.take (n - 2)) ≠ halfAt bs (n - 1) then .receiveError .crcMismatch
      else frameByKind (bs.take n) := by
  rw [frameCommand, if_neg (ne_nil_of_frameLength hn)]
  simp only [hn]

theorem receptionCommand_short (h : bs.length < n) : receptionCommand bs stopped = shortError stopped :=
  receptionCommand_of_short stopped (by rwa [expectedLength_of_frameLength hn])
    (by rw [frameCommand_of_frameLength hn, if_pos h])

theorem receptionCommand_mismatch (h : n ≤ bs.length) (hcrc : crc16 (bs.take (n - 2)) ≠ halfAt bs (n - 1)) :
    receptionCommand bs stopped = .receiveError .crcMismatch := by
  rw [receptionCommand_of_length stopped (by rwa [expectedLength_of_frameLength hn]), frameCommand_of_frameLength hn,
    if_neg (Nat.not_lt.mpr h), if_pos hcrc]

theorem receptionCommand_frame (h : n ≤ bs.length) (hcrc : crc16 (bs.take (n - 2)) = halfAt bs (n - 1)) :
    receptionCommand bs stopped = frameByKind (bs.take n) := by
  rw [receptionCommand_of_length stopped (by rwa [expectedLength_of_frameLength hn]), frameCommand_of_frameLength hn,
    if_neg (Nat.not_lt.mpr h), if_neg (not_not.mpr hcrc)]

end

/-! ## The fields of a good frame (10.2) -/

section
variable {bs : List Byte} {n : Nat}

theorem headerFields_take (h : 3 ≤ n) : headerFields (bs.take n) = headerFields bs := by
  simp only [headerFields]
  rw [byteAt_take (by decide) (by omega), byteAt_take (by decide) h]

theorem headerFields_eq (bs : List Byte) :
    headerFields bs =
      { sender := .ofNat 4 (byteAt bs 2).toNat
        cls := if (byteAt bs 2).getLsbD 4 then .routine else .urgent
        seq := byteAt bs 3 } := by
  simp only [headerFields, classOf_bit]
  rfl

theorem demandFields_eq (bs : List Byte) :
    demandFields bs =
      { demand := halfAt bs 4
        direction := .ofNat 4 (byteAt bs 6).toNat
        gripMode := .ofNat 4 ((byteAt bs 6).toNat / 16) } := by
  have hgrip : (byteAt bs 6).extractLsb' 4 4 = .ofNat 4 ((byteAt bs 6).toNat / 16) := by
    rw [BitVec.extractLsb', Nat.shiftRight_eq_div_pow]
  rw [demandFields, hgrip]
  rfl

theorem frameByKind_demand (hkind : byteAt bs 1 = 0x51) :
    frameByKind (bs.take 8) = .demandFrame (headerFields bs) (demandFields bs) := by
  have hbyte : byteAt (bs.take 8) 1 = demandKind := by rw [byteAt_take (by decide) (by decide), hkind]; rfl
  rw [frameByKind, if_pos hbyte, headerFields_take (by decide)]
  simp only [demandFields]
  rw [halfAt_take (by decide) (by decide), byteAt_take (by decide) (by decide)]

theorem frameByKind_status (hkind : byteAt bs 1 = 0x52) :
    frameByKind (bs.take 18) = .statusFrame (headerFields bs) (statusFields bs) := by
  have hbyte : byteAt (bs.take 18) 1 = statusKind := by rw [byteAt_take (by decide) (by decide), hkind]; rfl
  rw [frameByKind, hbyte, if_neg (by decide), if_pos rfl, headerFields_take (by decide)]
  simp only [statusFields]
  iterate 3 rw [byteAt_take (by decide) (by decide)]
  iterate 5 rw [halfAt_take (by decide) (by decide)]

theorem frameByKind_slipAlert (hkind : byteAt bs 1 = 0x53) :
    frameByKind (bs.take 12) = .slipAlertFrame (headerFields bs) (slipAlertFields bs) := by
  have hbyte : byteAt (bs.take 12) 1 = slipAlertKind := by rw [byteAt_take (by decide) (by decide), hkind]; rfl
  rw [frameByKind, hbyte, if_neg (by decide), if_neg (by decide), if_pos rfl, headerFields_take (by decide)]
  simp only [slipAlertFields]
  rw [byteAt_take (by decide) (by decide)]
  iterate 3 rw [halfAt_take (by decide) (by decide)]

theorem frameByKind_fault (hkind : byteAt bs 1 = 0x54) :
    frameByKind (bs.take 6) = .faultFrame (headerFields bs) ⟨byteAt bs 4⟩ := by
  have hbyte : byteAt (bs.take 6) 1 = faultKind := by rw [byteAt_take (by decide) (by decide), hkind]; rfl
  rw [frameByKind, hbyte, if_neg (by decide), if_neg (by decide), if_neg (by decide), headerFields_take (by decide),
    byteAt_take (by decide) (by decide)]

end

end Sys2Proof.Machine
end

section
/-! PROOFS. A good frame written by 10.2 reads back as itself (R78, R79, R177). -/

namespace Sys2Proof.Machine

/-! ## A two-byte field written and read (R176) -/

theorem byteAt_append_right {bs more : List Byte} {k : Nat} (h : 1 ≤ k) :
    byteAt (bs ++ more) (bs.length + k) = byteAt more k := by
  simp only [byteAt, List.getD_eq_getElem?_getD]
  rw [List.getElem?_append_right (by omega), show bs.length + k - 1 - bs.length = k - 1 by omega]

theorem half_of_bytes (h : Half) : h.extractLsb' 8 8 ++ h.extractLsb' 0 8 = h := by
  apply BitVec.eq_of_getLsbD_eq
  intro i hi
  rw [BitVec.getLsbD_append]
  by_cases hlow : i < 8
  · simp [hlow]
  · simp [hlow, show i - 8 < 8 by omega, show 8 + (i - 8) = i by omega]

theorem halfAt_halfBytes (bs more : List Byte) (h : Half) : halfAt (bs ++ (halfBytes h ++ more)) (bs.length + 1) = h := by
  rw [halfAt, Nat.add_assoc, byteAt_append_right (by decide), byteAt_append_right (by decide)]
  exact half_of_bytes h

/-! ## A frame closed by its CRC (R177) -/

/-- A body of its kind's length, closed by its CRC, is the frame of its kind. -/
theorem frameCommand_sealFrame {body : List Byte} (hn : frameLength (byteAt body 1) = some (body.length + 2))
    (hne : body ≠ []) : frameCommand (sealFrame body) = frameByKind (sealFrame body) := by
  obtain ⟨b, rest, rfl⟩ := List.exists_cons_of_ne_nil hne
  have hlength : (sealFrame (b :: rest)).length = (b :: rest).length + 2 := by simp [sealFrame, halfBytes]
  have hkind : frameLength (byteAt (sealFrame (b :: rest)) 1) = some ((b :: rest).length + 2) := hn
  have hcrc : crc16 ((sealFrame (b :: rest)).take ((b :: rest).length + 2 - 2)) =
      halfAt (sealFrame (b :: rest)) ((b :: rest).length + 2 - 1) := by
    have hhalf := halfAt_halfBytes (b :: rest) [] (crc16 (b :: rest))
    rw [List.append_nil] at hhalf
    rw [Nat.add_sub_cancel, sealFrame, List.take_left]
    exact hhalf.symm
  rw [frameCommand_of_frameLength hkind, hlength, if_neg (Nat.lt_irrefl _), if_neg (not_not.mpr hcrc), ← hlength,
    List.take_length]

/-! ## The fields written and read (10.2) -/

section
variable (h : FrameHeader) (kind : Byte) (more : List Byte)

theorem headerByte2_sender (c : BitVec 1) (sender : BitVec 4) :
    (0#3 ++ c ++ sender : BitVec 8).extractLsb' 0 4 = sender := by
  revert c sender; decide

theorem headerByte2_cls (c : FrameClass) (sender : BitVec 4) :
    classOf ((0#3 ++ classBit c ++ sender : BitVec 8).extractLsb' 4 1) = c := by
  cases c <;> revert sender <;> decide

theorem headerFields_headerBytes : headerFields (headerBytes kind h ++ more) = h := by
  change FrameHeader.mk _ (classOf _) h.seq = h
  change FrameHeader.mk ((0#3 ++ classBit h.cls ++ h.sender : BitVec 8).extractLsb' 0 4)
    (classOf ((0#3 ++ classBit h.cls ++ h.sender : BitVec 8).extractLsb' 4 1)) h.seq = h
  rw [headerByte2_sender, headerByte2_cls]

theorem nibbles_low (hi lo : BitVec 4) : (hi ++ lo : BitVec 8).extractLsb' 0 4 = lo := by
  revert hi lo; decide

theorem nibbles_high (hi lo : BitVec 4) : (hi ++ lo : BitVec 8).extractLsb' 4 4 = hi := by
  revert hi lo; decide

theorem demandFields_written (p : DemandPayload) :
    demandFields (headerBytes kind h ++ halfBytes p.demand ++ [p.gripMode ++ p.direction] ++ more) = p := by
  change DemandPayload.mk (p.demand.extractLsb' 8 8 ++ p.demand.extractLsb' 0 8)
    ((p.gripMode ++ p.direction : BitVec 8).extractLsb' 0 4) ((p.gripMode ++ p.direction : BitVec 8).extractLsb' 4 4) = p
  rw [half_of_bytes, nibbles_low, nibbles_high]

theorem statusByte4_read (health : BitVec 2) (rateLimited slipActive noDemand : Bool) :
    let b := statusByte4 health rateLimited slipActive noDemand
    b.extractLsb' 0 2 = health ∧ b.getLsbD 4 = rateLimited ∧ b.getLsbD 5 = slipActive ∧ b.getLsbD 6 = noDemand := by
  revert health rateLimited slipActive noDemand; decide

theorem statusFields_written (p : StatusPayload) :
    statusFields (headerBytes kind h ++ statusPayloadBytes p ++ more) = p := by
  obtain ⟨hhealth, hlimited, hslip, hdemand⟩ := statusByte4_read p.health p.rateLimited p.slipActive p.noDemand
  have hbyte : byteAt (headerBytes kind h ++ statusPayloadBytes p ++ more) 4 =
    statusByte4 p.health p.rateLimited p.slipActive p.noDemand := rfl
  have hhalf : ∀ k x, byteAt (headerBytes kind h ++ statusPayloadBytes p ++ more) k = x.extractLsb' 0 8 →
      byteAt (headerBytes kind h ++ statusPayloadBytes p ++ more) (k + 1) = x.extractLsb' 8 8 →
      halfAt (headerBytes kind h ++ statusPayloadBytes p ++ more) k = x := fun k x hlow hhigh => by
    rw [halfAt, hlow, hhigh, half_of_bytes]
  simp only [statusFields]
  rw [hbyte, hhealth, hlimited, hslip, hdemand, hhalf 5 p.propCap rfl rfl, hhalf 7 p.retCap rfl rfl,
    hhalf 9 p.weight rfl rfl, hhalf 11 p.axleSpeed rfl rfl, hhalf 13 p.held rfl rfl]
  rfl

theorem slipAlertFields_written (p : SlipAlertPayload) :
    slipAlertFields (headerBytes kind h ++ slipAlertPayloadBytes p ++ more) = p := by
  change SlipAlertPayload.mk p.sense (p.newCap.extractLsb' 8 8 ++ p.newCap.extractLsb' 0 8)
    (p.newWeight.extractLsb' 8 8 ++ p.newWeight.extractLsb' 0 8) (p.slip.extractLsb' 8 8 ++ p.slip.extractLsb' 0 8) = p
  simp only [half_of_bytes]

end

/-- Every good frame, written with its CRC, reads back as itself. -/
theorem frameCommand_frameBytes {c : Instr} {bs : List Byte} (h : frameBytes c = some bs) : frameCommand bs = c := by
  cases c <;> cases h
  case demandFrame h p =>
    refine (frameCommand_sealFrame rfl (by simp [headerBytes])).trans ?_
    change Instr.demandFrame (headerFields _) (demandFields _) = _
    rw [sealFrame, demandFields_written, List.append_assoc, List.append_assoc, headerFields_headerBytes]
  case statusFrame h p =>
    refine (frameCommand_sealFrame rfl (by simp [headerBytes])).trans ?_
    change Instr.statusFrame (headerFields _) (statusFields _) = _
    rw [sealFrame, statusFields_written, List.append_assoc, headerFields_headerBytes]
  case slipAlertFrame h p =>
    refine (frameCommand_sealFrame rfl (by simp [headerBytes])).trans ?_
    change Instr.slipAlertFrame (headerFields _) (slipAlertFields _) = _
    rw [sealFrame, slipAlertFields_written, List.append_assoc, headerFields_headerBytes]
  case faultFrame h p =>
    refine (frameCommand_sealFrame rfl (by simp [headerBytes])).trans ?_
    change Instr.faultFrame (headerFields _) ⟨p.cause⟩ = _
    rw [sealFrame, List.append_assoc, headerFields_headerBytes]

end Sys2Proof.Machine
end

section
/-! PROOFS. The bits of the share link (R69, R79) and its CRC (R177). -/

namespace Sys2Proof.Machine

/-! ## The levels of a byte (R69) -/

theorem byteLevels_eq (b : Byte) :
    byteLevels b = [.dominant] ++ (List.range 8).map (fun i => if b.getLsbD i then Level.recessive else .dominant) ++
      [.recessive] := rfl

theorem readLevels_replicate (n : Nat) (rest : List Level) :
    readLevels (List.replicate n .recessive ++ rest) = readLevels rest := by
  induction n with
  | zero => rfl
  | succ n ih => rwa [List.replicate_succ, List.cons_append, readLevels_quiet]

/-- Bytes read as themselves behind any quiet, and the reading goes on behind them. -/
theorem readLevels_line (line : List (Nat × Byte)) (rest : List Level) :
    readLevels (line.flatMap (fun c => List.replicate c.1 .recessive ++ byteLevels c.2) ++ rest) =
      ⟨line.map (·.2) ++ (readLevels rest).bytes, (readLevels rest).dominantStop⟩ := by
  induction line with
  | nil => rfl
  | cons c line ih =>
    rw [List.flatMap_cons, List.append_assoc, List.append_assoc, readLevels_replicate, readLevels_byte, ih]
    rfl

theorem readLevels_bytes (bs : List Byte) : readLevels (bs.flatMap byteLevels) = ⟨bs, false⟩ := by
  induction bs with
  | nil => rfl
  | cons b bs ih => rw [List.flatMap_cons, readLevels_byte, ih]

theorem readLevels_partial (b : Byte) {k : Nat} (h : k < 10) : readLevels ((byteLevels b).take k) = ⟨[], false⟩ := by
  interval_cases k <;> rfl

theorem readLevels_dominantStop (b : Byte) (rest : List Level) :
    readLevels ((byteLevels b).take 9 ++ .dominant :: rest) = ⟨[], true⟩ := rfl

/-! ## The receive buffer (R79) -/

theorem take_expectedLength (bs : List Byte) :
    bs.take (expectedLength bs) =
      match bs with
      | [] => []
      | kind :: _ =>
        if kind = 0x51 then bs.take 8 else if kind = 0x52 then bs.take 18
        else if kind = 0x53 then bs.take 12 else if kind = 0x54 then bs.take 6 else bs.take 1 := by
  cases bs with
  | nil => rfl
  | cons kind bs =>
    change (kind :: bs).take ((frameLength kind).getD 1) = _
    dsimp only
    split_ifs with h1 h2 h3 h4
    · rw [h1]
      rfl
    · rw [h2]
      rfl
    · rw [h3]
      rfl
    · rw [h4]
      rfl
    · rw [frameLength_of_unknown h1 h2 h3 h4]
      rfl

/-! ## The CRC (R177) -/

theorem crcBit_eq (r : Half) (bit : Bool) :
    crcBit r bit = if r.getLsbD 15 = bit then r <<< 1 else (r <<< 1) ^^^ 0x1021 := by
  simp only [crcBit, bne_iff_ne, ne_eq, ite_not]

theorem crcByte_eq (r : Half) (b : Byte) :
    crcByte r b = (List.range 8).foldl
      (fun (r : Half) i => if r.getLsbD 15 = b.getLsbD (7 - i) then r <<< 1 else (r <<< 1) ^^^ 0x1021) r := by
  have hbits : [7, 6, 5, 4, 3, 2, 1, 0] = (List.range 8).map (7 - ·) := rfl
  rw [crcByte, hbits, List.foldl_map]
  simp only [crcBit_eq]

theorem crc16_append (bs : List Byte) (b : Byte) : crc16 (bs ++ [b]) = crcByte (crc16 bs) b := by
  rw [crc16, List.foldl_append]
  rfl

end Sys2Proof.Machine
end

section
/-! PROOFS. The own frames as a peer reads them (R52, R58, R59, R92, R97, R135). -/

namespace Sys2Proof.Machine

/-! ## Own frames in the encoded fields of 10.2 -/

/-- The header of an own frame (10.2). -/
def OwnFrame.header (f : OwnFrame) (own : StationNumber) (seq : Seq) : FrameHeader := ⟨BitVec.ofNat 4 own.val, f.cls, seq⟩

/-- An own STATUS in its encoded fields (10.2). -/
def StatusFrame.encoded (f : StatusFrame) : StatusPayload where
  health := BitVec.ofNat 2 f.health.code
  rateLimited := f.figures.rateLimited
  slipActive := f.figures.slipActive
  noDemand := f.figures.demandSeq.isNone
  propCap := BitVec.ofNat 16 f.figures.propCap
  retCap := BitVec.ofNat 16 f.figures.retCap
  weight := BitVec.ofNat 16 f.figures.weight
  axleSpeed := BitVec.ofNat 16 f.figures.axleSpeed
  held := BitVec.ofInt 16 f.figures.held
  demandSeq := f.figures.demandSeq.getD 0
  grip := u8 f.figures.grip

/-- An own SLIP ALERT in its encoded fields (10.2). -/
def SlipAlert.encoded (a : SlipAlert) : SlipAlertPayload where
  sense := u8 a.sense.code
  newCap := BitVec.ofNat 16 a.newCap
  newWeight := BitVec.ofNat 16 a.newWeight
  slip := BitVec.ofNat 16 a.slip

/-- The command an own frame is to the peers that hear it. -/
def OwnFrame.command (f : OwnFrame) (own : StationNumber) (seq : Seq) : Instr :=
  match f with
  | .status r => .statusFrame (f.header own seq) r.encoded
  | .urgent (.slipAlert a) => .slipAlertFrame (f.header own seq) a.encoded
  | .urgent (.fault c) => .faultFrame (f.header own seq) ⟨u8 c.code⟩

/-- A frame that has won its claim is driven as its kind is written by 10.2. -/
theorem OwnFrame.bytes_eq (f : OwnFrame) (own : StationNumber) (seq : Seq) :
    TransmitFrame.bytes ⟨f, some seq, some (f.crc own seq), 0⟩ own = frameBytes (f.command own seq) := by
  cases f with
  | status r => rfl
  | urgent u => cases u <;> rfl

/-- The peers read an own frame as the command it is, from its number. -/
theorem OwnFrame.readBack (f : OwnFrame) (own : StationNumber) (seq : Seq) :
    ∃ bs, TransmitFrame.bytes ⟨f, some seq, some (f.crc own seq), 0⟩ own = some bs ∧
      bs.length = (f.body own seq).length + 2 ∧ receptionCommand bs false = f.command own seq := by
  refine ⟨sealFrame (f.body own seq), rfl, by simp [sealFrame, halfBytes], ?_⟩
  rw [receptionCommand_good]
  exact frameCommand_frameBytes (OwnFrame.bytes_eq f own seq).symm

theorem OwnFrame.header_sender (f : OwnFrame) (own : StationNumber) (seq : Seq) :
    (f.header own seq).sender.toNat = own.val := by
  have := own.isLt
  simp only [OwnFrame.header, BitVec.toNat_ofNat]
  omega

/-! ## The figures as read (R52, R59) -/

theorem ofNat16_toNat {n : Nat} (h : n ≤ 65535) : (BitVec.ofNat 16 n).toNat = n := by
  rw [BitVec.toNat_ofNat]
  omega

theorem clampTop_ofNat16 {hi n : Nat} (h : n ≤ hi) (hhi : hi ≤ 65535) : clampTop hi (BitVec.ofNat 16 n).toNat = n := by
  rw [ofNat16_toNat (h.trans hhi), clampTop, Nat.min_eq_left h]

theorem clampInt_ofInt16 {x : Int} (h : x.natAbs ≤ 8000) : clampInt (-8000) 8000 (BitVec.ofInt 16 x).toInt = x := by
  rw [BitVec.toInt_ofInt, Int.bmod_eq_of_le (by omega) (by omega), clampInt]
  omega

theorem clampNat_u8 {n : Nat} (h4 : 4 ≤ n) (h16 : n ≤ 16) : clampNat 4 16 (u8 n).toNat = n := by
  simp only [u8, BitVec.toNat_ofNat, clampNat]
  omega

theorem Health.code_toNat (health : Health) : (BitVec.ofNat 2 health.code).toNat = health.code := by
  cases health <;> rfl

theorem FaultCause.code_toNat (c : FaultCause) : (u8 c.code).toNat = c.code := by
  cases c <;> rfl

theorem demandSeq_read {noDemand : Bool} {seq : Seq} {o : Option Seq} (hnone : noDemand = o.isNone) (hseq : seq = o.getD 0) :
    (if noDemand then none else some seq) = o := by
  subst hnone hseq
  cases o <;> rfl

theorem readStatus_encoded {f : StatusFrame} (hprop : f.figures.propCap ≤ 8000) (hret : f.figures.retCap ≤ 8000)
    (hweight : f.figures.weight ≤ 1000) (hspeed : f.figures.axleSpeed ≤ 65535) (hheld : f.figures.held.natAbs ≤ 8000)
    (h4 : 4 ≤ f.figures.grip) (h16 : f.figures.grip ≤ 16) :
    readStatus f.encoded = some
      { health := f.health, propCap := f.figures.propCap, retCap := f.figures.retCap, weight := f.figures.weight
        axleSpeed := f.figures.axleSpeed, reported := f.figures.held, demandSeq := f.figures.demandSeq
        rateLimited := f.figures.rateLimited, slipActive := f.figures.slipActive, grip := f.figures.grip } := by
  have hseq := demandSeq_read (noDemand := f.encoded.noDemand) (seq := f.encoded.demandSeq) (o := f.figures.demandSeq)
    rfl rfl
  rw [readStatus_health (Health.code_toNat f.health), statusContent, hseq]
  simp only [StatusFrame.encoded, clampTop_ofNat16 hprop, clampTop_ofNat16 hret, clampTop_ofNat16 hweight,
    ofNat16_toNat hspeed, clampInt_ofInt16 hheld, clampNat_u8 h4 h16, Nat.reduceLeDiff]

theorem readSlipAlert_encoded {a : SlipAlert} (hsense : a.sense ≠ .none) (hcap : a.newCap ≤ 8000)
    (hweight : a.newWeight ≤ 1000) (hslip : a.slip ≤ 1000) : readSlipAlert a.encoded = some a := by
  have hcode : Sense.ofAlertCode a.encoded.sense.toNat = some a.sense := by
    cases hs : a.sense with
    | none => exact absurd hs hsense
    | propulsive | retarding => simp only [SlipAlert.encoded, hs]; rfl
  rw [readSlipAlert_eq, hcode, Option.map_some]
  simp only [alertContent, SlipAlert.encoded, clampTop_ofNat16 hcap, clampTop_ofNat16 hweight, clampTop_ofNat16 hslip,
    Nat.reduceLeDiff]

/-! ## Frames as bytes and bits -/

/-- Settles O53: what a reception spells, what is written of a frame, the bits of the line, the CRC, and the own frames. -/
theorem framesReadBack : Obligations.FramesReadBack := by
  unfold Obligations.FramesReadBack
  intro byte half
  refine ⟨fun bs stopped => ?_, fun c bs hbs => ?_, fun levels s hreception hempty => ?_, fun bs s => ?_, byteLevels_eq,
    fun line b k rest => ?_, ⟨rfl, fun bs b => ?_⟩, fun own seq => ?_⟩
  · intro kind short
    refine ⟨?_, fun hne h1 h2 h3 h4 => receptionCommand_unknown stopped hne (frameLength_of_unknown h1 h2 h3 h4), ?_⟩
    · rintro rfl
      exact receptionCommand_nil stopped
    · intro n hn
      have hlength := frameLength_of_kind hn
      have hsize : ∀ m, _ → n = m := fun m hm => Option.some.inj (hlength.symm.trans (frameLength_of_kind (n := m) hm))
      refine ⟨receptionCommand_short stopped hlength, receptionCommand_mismatch stopped hlength, fun hfull hcrc => ?_⟩
      intro header
      have hheader : header = headerFields bs := (headerFields_eq bs).symm
      rw [receptionCommand_frame stopped hlength hfull hcrc, hheader]
      refine ⟨fun hkind => ?_, fun hkind => ?_, fun hkind => ?_, fun hkind => ?_⟩
      · obtain rfl := hsize 8 (.inl ⟨hkind, rfl⟩)
        rw [frameByKind_demand hkind, demandFields_eq]
        rfl
      · obtain rfl := hsize 18 (.inr (.inl ⟨hkind, rfl⟩))
        exact frameByKind_status hkind
      · obtain rfl := hsize 12 (.inr (.inr (.inl ⟨hkind, rfl⟩)))
        exact frameByKind_slipAlert hkind
      · obtain rfl := hsize 6 (.inr (.inr (.inr ⟨hkind, rfl⟩)))
        exact frameByKind_fault hkind
  · rw [receptionCommand_good]
    exact frameCommand_frameBytes hbs
  · have hread := State.withReception_eq s (readLevels levels) hreception hempty
    rw [take_expectedLength] at hread
    exact hread
  · rw [State.withFrameBytes, State.withFrameLevels, readLevels_bytes]
  · intro levels
    refine ⟨fun hk => ?_, ?_⟩
    · rw [readLevels_line, readLevels_partial b hk, List.append_nil]
    · rw [List.append_assoc, readLevels_line, readLevels_dominantStop, List.append_nil]
  · rw [crc16_append, crcByte_eq]
  · intro sent
    refine ⟨fun f hprop hret hweight hspeed hheld h4 h16 => ?_, fun a hsense hcap hweight hslip => ?_, fun c => ?_⟩
    · obtain ⟨bs, hbytes, hlength, hread⟩ := OwnFrame.readBack (.status f) own seq
      exact ⟨bs, _, _, hbytes, hlength, hread, OwnFrame.header_sender .., rfl, rfl,
        readStatus_encoded hprop hret hweight hspeed hheld h4 h16⟩
    · obtain ⟨bs, hbytes, hlength, hread⟩ := OwnFrame.readBack (.urgent (.slipAlert a)) own seq
      exact ⟨bs, _, _, hbytes, hlength, hread, OwnFrame.header_sender .., rfl, rfl,
        readSlipAlert_encoded hsense hcap hweight hslip⟩
    · obtain ⟨bs, hbytes, hlength, hread⟩ := OwnFrame.readBack (.urgent (.fault c)) own seq
      refine ⟨bs, _, _, hbytes, hlength, hread, OwnFrame.header_sender .., rfl, rfl, ?_⟩
      rw [FaultCause.code_toNat, FaultCause.ofCode_code]

end Sys2Proof.Machine
end

section
/-! PROOFS. The Frame Scheduler's own operations (chapter 5): the urgent queue (O27), the move into the transmit buffer (O26) and
the publish timer (O35). -/

namespace Sys2Proof.Machine

/-! ## The urgent queue (R96, R97) -/

section
variable (a : SlipAlert) (c : FaultCause) (q : List UrgentFrame)

theorem faultCount_cons_slipAlert : faultCount (.slipAlert a :: q) = faultCount q := rfl

theorem faultCount_cons_fault : faultCount (.fault c :: q) = faultCount q + 1 := rfl

@[simp] theorem faultCount_append (q r : List UrgentFrame) : faultCount (q ++ r) = faultCount q + faultCount r := by
  simp [faultCount]

@[simp] theorem faultCount_reverse : faultCount q.reverse = faultCount q := by
  simp [faultCount, List.filter_reverse]

@[simp] theorem faultCount_replaceFirstAlert : faultCount (replaceFirstAlert a q) = faultCount q := by
  induction q with
  | nil => rfl
  | cons f fs ih =>
    cases f with
    | slipAlert b => rfl
    | fault c => rw [replaceFirstAlert, faultCount_cons_fault, faultCount_cons_fault, ih]

/-- The SLIP ALERT replaced is the first one, so the FAULTs before it stay as they are. -/
theorem replaceFirstAlert_append {before : List UrgentFrame} (hbefore : ∀ b, UrgentFrame.slipAlert b ∉ before)
    (old : SlipAlert) : replaceFirstAlert a (before ++ .slipAlert old :: q) = before ++ .slipAlert a :: q := by
  induction before with
  | nil => rfl
  | cons f fs ih =>
    cases f with
    | slipAlert b => exact absurd List.mem_cons_self (hbefore b)
    | fault c =>
      rw [List.cons_append, replaceFirstAlert, ih fun b hb => hbefore b (List.mem_cons_of_mem _ hb), List.cons_append]

/-- From the tail, the SLIP ALERT in whose place the new one comes is the newest (R96). -/
theorem queueAlert_newest {before after : List UrgentFrame} {old : SlipAlert}
    (hfull : 4 ≤ (before ++ .slipAlert old :: after).length) (hafter : ∀ b, UrgentFrame.slipAlert b ∉ after) :
    queueAlert (before ++ .slipAlert old :: after) a = before ++ .slipAlert a :: after := by
  have hreversed : ∀ b, UrgentFrame.slipAlert b ∉ after.reverse := fun b hb => hafter b (List.mem_reverse.mp hb)
  rw [queueAlert_full _ _ hfull, List.reverse_append, List.reverse_cons, List.append_assoc, List.singleton_append,
    replaceFirstAlert_append a before.reverse hreversed old]
  simp

theorem faultCount_queueAlert : faultCount (queueAlert q a) = faultCount q := by
  rcases Nat.lt_or_ge q.length 4 with hroom | hfull
  · rw [queueAlert_room q a hroom, faultCount_append, faultCount_cons_slipAlert]
    rfl
  · rw [queueAlert_full q a hfull, faultCount_reverse, faultCount_replaceFirstAlert, faultCount_reverse]

theorem length_queueAlert_le (hq : q.length ≤ 4) : (queueAlert q a).length ≤ 4 := by
  rcases Nat.lt_or_ge q.length 4 with hroom | hfull
  · simpa [queueAlert_room q a hroom] using hroom
  · simpa [queueAlert_full q a hfull] using hq

/-- What is left of the FAULTs of a queue with one at most, each with the new cause, is that one (R97). -/
theorem queueFault_eq (hq : faultCount q ≤ 1) : queueFault q c = [.fault c] := by
  unfold faultCount at hq
  unfold queueFault
  match hfaults : q.filter UrgentFrame.isFault with
  | [] => rfl
  | [_] => rfl
  | _ :: _ :: _ => simp [hfaults] at hq

end

/-- Settles O27, clause by clause. -/
theorem urgentQueue : Obligations.UrgentQueue := by
  unfold Obligations.UrgentQueue
  exact ⟨queueAlert_room, fun _ _ _ a hfull hafter => queueAlert_newest a hfull hafter,
    fun q a hq => ⟨length_queueAlert_le a q hq, faultCount_queueAlert a q⟩, fun q c => queueFault_eq c q⟩

/-! ## The move into the transmit buffer (R75, R98, R99) -/

section
variable {s : State}

theorem State.move_of_take (hcan : s.slc.canTake = true) (hmode : s.ssv.mode ≠ .unconfigured) {f : OwnFrame} {rest : Scheduler}
    (htake : s.fsc.take = some (f, rest)) :
    s.move = { s with
      fsc := rest, slc := { s.slc with transmit := some ⟨f, none, none, 0⟩, claim := .contending } } := by
  simp [State.move, hcan, hmode, htake]

theorem State.move_of_stay (hstay : ¬s.slc.canTake = true ∨ s.ssv.mode = .unconfigured ∨ s.fsc.take = none) :
    s.move = s := by
  rcases s.move_cases with h | ⟨f, rest, hcan, hmode, htake, -⟩
  · exact h
  · simp [hcan, hmode, htake] at hstay

theorem Scheduler.take_urgent {f : Scheduler} {u : UrgentFrame} {us : List UrgentFrame} (h : f.urgent = u :: us) :
    f.take = some (.urgent u, { f with urgent := us }) := by
  simp only [Scheduler.take, h]

theorem Scheduler.take_routine {f : Scheduler} {w : StatusFrame} (hurgent : f.urgent = []) (hroutine : f.routine = some w) :
    f.take = some (.status w, { f with routine := none }) := by
  simp only [Scheduler.take, hurgent, hroutine]

theorem State.drive_openMark {f : TransmitFrame} (hdrive : s.slc.resetDrive = .none) (htransmit : s.slc.transmit = some f)
    (hclaim : s.slc.claim = .contending) (hline : s.slc.line = .free) : s.drive = .openMark := by
  simp [State.drive, hdrive, htransmit, hclaim, hline]

/-- A frame that moved contends on the free line, so its station drives the open mark (R75). -/
theorem State.move_contends (hcan : s.slc.canTake = true) (hmode : s.ssv.mode ≠ .unconfigured) {f : OwnFrame} {rest : Scheduler}
    (htake : s.fsc.take = some (f, rest)) :
    s.move = { s with
      fsc := rest, slc := { s.slc with transmit := some ⟨f, none, none, 0⟩, claim := .contending } } ∧
      s.move.drive = .openMark := by
  obtain ⟨hline, -, hdrive⟩ := s.slc.canTake_iff.mp hcan
  have hmove := State.move_of_take hcan hmode htake
  refine ⟨hmove, ?_⟩
  rw [hmove]
  exact State.drive_openMark hdrive rfl rfl hline

end

/-- Settles O26: what can be taken is what the Share Link Controller and the collections allow. -/
theorem moveIntoTransmitBuffer : Obligations.MoveIntoTransmitBuffer := by
  unfold Obligations.MoveIntoTransmitBuffer
  intro s
  refine ⟨fun hline hbuffer hdrive hmode => ?_, fun hstay => State.move_of_stay ?_,
    fun hdriving => ⟨if_pos hdriving, if_pos hdriving⟩⟩
  · have hcan : s.slc.canTake = true := s.slc.canTake_iff.mpr ⟨hline, hbuffer, hdrive⟩
    exact ⟨fun f fs hurgent => State.move_contends hcan hmode (Scheduler.take_urgent hurgent),
      fun f hurgent hroutine => State.move_contends hcan hmode (Scheduler.take_routine hurgent hroutine)⟩
  · rw [LinkController.canTake_iff, Scheduler.take_none]
    tauto

/-! ## The publish timer (R91 to R94) -/

/-- The published cap of PROPULSIVE, by the slip cap held (R93). -/
theorem State.publishedCap_propulsive (s : State) :
    s.publishedCap .propulsive =
      match s.slm.slipCap with
      | some ⟨m, .propulsive⟩ => min s.spe.ownCaps.prop m
      | _ => s.spe.ownCaps.prop := by
  rw [State.publishedCap, lesserCap_slipCapFor]
  rcases s.slm.slipCap with _ | ⟨m, _ | _ | _⟩ <;> rfl

/-- The published cap of RETARDING, by the slip cap held (R93). -/
theorem State.publishedCap_retarding (s : State) :
    s.publishedCap .retarding =
      match s.slm.slipCap with
      | some ⟨m, .retarding⟩ => min s.spe.ownCaps.ret m
      | _ => s.spe.ownCaps.ret := by
  rw [State.publishedCap, lesserCap_slipCapFor]
  rcases s.slm.slipCap with _ | ⟨m, _ | _ | _⟩ <;> rfl

/-- A configured station has a health to publish (R92). -/
theorem healthOf_configured {mode : StationMode} :
    mode ≠ .unconfigured →
      healthOf mode = some (match mode with | .sharing => .sharing | .safe => .withdrawn | _ => .joining) := by
  intro hmode
  cases mode with
  | unconfigured => exact absurd rfl hmode
  | announcing => rfl
  | sharing => rfl
  | safe => rfl

theorem exec_publishTimerExpiry {s : State} {ms : Nat} (hrun : s.fsc.publishTimer = .running ms) :
    exec .publishTimerExpiry s = .next s.publish :=
  if_pos (by rw [hrun]; rfl)

/-- Settles O35: the STATUS assembled has the health of the mode and the figures of R92. -/
theorem publishTimerExpires : Obligations.PublishTimerExpires := by
  unfold Obligations.PublishTimerExpires
  intro ms s hrun hmode
  rw [exec_publishTimerExpiry hrun, State.publish, State.assemble, healthOf_configured hmode, State.figures,
    State.publishedCap_propulsive, State.publishedCap_retarding]
  rfl

end Sys2Proof.Machine
end

section
/-! PROOFS. What a command keeps, said once for any property of the state: each lemma names the outcomes its command has. -/

namespace Sys2Proof.Machine

/-! ## What is sent at the start of an exchange touches neither the line nor the Slip Monitor's run (R50, R159) -/

section
variable (s : State)

@[simp] theorem State.sendPeerView_canTake (n : StationNumber) : (s.sendPeerView n).slc.canTake = s.slc.canTake := by
  unfold State.sendPeerView
  split
  · rfl
  · split <;> rfl

@[simp] theorem State.sendPeerView_monitorState (n : StationNumber) : (s.sendPeerView n).slm.state = s.slm.state := by
  unfold State.sendPeerView
  split
  · rfl
  · split <;> rfl

@[simp] theorem State.sendReply_canTake (r : Reply) : (s.sendReply r).slc.canTake = s.slc.canTake := by
  cases r with
  | ack k => rfl
  | refuse k reason i => rfl
  | notice => exact congrArg LinkController.canTake (State.sendNotice_slc _)
  | peerView n => exact State.sendPeerView_canTake _ n

@[simp] theorem State.sendReply_monitorState (r : Reply) : (s.sendReply r).slm.state = s.slm.state := by
  cases r with
  | ack k => rfl
  | refuse k reason i => rfl
  | notice => exact congrArg Monitor.state (State.sendNotice_slm _)
  | peerView n => exact State.sendPeerView_monitorState _ n

end

section
variable {P : State → Prop} {s : State} (hs : P s)
include hs

/-! ## Class A conditions (R148, R150, R155) -/

theorem State.classA_keeps {c : FaultCause}
    (henter : s.ssv.mode ≠ .unconfigured → s.ssv.mode ≠ .safe → P (s.enterSafe c))
    (hsafe : s.ssv.mode = .safe → P (s.classAInSafe c)) : P (s.classA c) := by
  cases hmode : s.ssv.mode with
  | unconfigured => rwa [State.classA_unconfigured s c hmode]
  | announcing => rw [State.classA_active s c (.inl hmode)]; exact henter (by simp [hmode]) (by simp [hmode])
  | sharing => rw [State.classA_active s c (.inr hmode)]; exact henter (by simp [hmode]) (by simp [hmode])
  | safe => rw [State.classA_safe s c hmode]; exact hsafe hmode

/-- The mark of a measure lost in SAFE, with its notice (R155). -/
def State.loseMeasure (s : State) : State :=
  { s with ssv := { s.ssv with measureLost := true } : State }.notify .measureLost none none

theorem State.measureExpired_keeps (hclassA : P (s.classA .measureTimeout)) (hlost : P s.loseMeasure) :
    P s.measureExpired := by
  unfold State.measureExpired
  split
  · exact hs
  · exact hclassA
  · exact hclassA
  · split
    · exact hs
    · exact hlost

/-! ## Exchanges (R159 to R168) -/

theorem execExchangeStart_keeps (hreply : ∀ r, P (s.sendReply r)) (hstate : P s.sendState) :
    Keeps P (execExchangeStart s) := by
  unfold execExchangeStart
  split
  · exact .next hs
  · split
    · exact .next (hreply _)
    · exact .next hstate

theorem execSetup_keeps {r : SetupRecord} (hrefuse : ∀ reason i, P (s.endExchange.refuse .setup reason i))
    (haccept : s.ssv.mode = .unconfigured → s.ssv.ownNumber ≠ 0 → firstOutOfRange r = none →
      P (s.endExchange.acceptSetup (storedSetup r))) : Keeps P (execSetup r s) := by
  unfold execSetup
  split
  · split
    · exact .next (hrefuse ..)
    · rename_i hmode
      split
      · exact .next (hrefuse ..)
      · rename_i hown
        split
        · exact .next (hrefuse ..)
        · rename_i hrange
          exact .next (haccept (not_not.mp hmode) hown hrange)
  · exact .next hs

theorem execMeasure_keeps {r : MeasureRecord} (hrefuse : P (s.endExchange.refuse .measure .notConfigured none))
    (haccept : s.ssv.mode ≠ .unconfigured → P (s.endExchange.acceptMeasure r)) : Keeps P (execMeasure r s) := by
  unfold execMeasure
  split
  · split
    · exact .next hrefuse
    · exact .next (haccept ‹_›)
  · exact .next hs

theorem execReadPeer_keeps {station : Byte} (hview : ∀ n, P (s.endExchange.place (.peerView n)))
    (hrefuse : P (s.endExchange.refuse .readPeer .range none)) : Keeps P (execReadPeer station s) := by
  unfold execReadPeer
  split
  · split
    · exact .next (hview _)
    · exact .next hrefuse
  · exact .next hs

theorem execSafeRequest_keeps (hrefuse : P (s.endExchange.refuse .safeRequest .notConfigured none))
    (hsafe : P ((s.endExchange.classA .localRequest).place (.ack .safeRequest))) : Keeps P (execSafeRequest s) := by
  unfold execSafeRequest
  split
  · split
    · exact .next hrefuse
    · exact .next hsafe
  · exact .next hs

theorem execResume_keeps (hrefuse : ∀ reason, P (s.endExchange.refuse .resume reason none))
    (hresume : s.ssv.mode = .safe → P (s.endExchange.resumeJoin.place (.ack .resume))) : Keeps P (execResume s) := by
  unfold execResume
  split
  · split
    · exact .next (hrefuse _)
    · rename_i hmode
      split
      · exact .next (hrefuse _)
      · exact .next (hresume (not_not.mp hmode))
  · exact .next hs

/-- A LINK_RESET_REQUEST accepted, but for its ACK (R86). -/
def State.requestReset (s : State) : State := { s.endExchange with slc := s.slc.requestReset }

theorem execLinkResetRequest_keeps (hrefuse : ∀ reason, P (s.endExchange.refuse .linkResetRequest reason none))
    (hrequest : s.ssv.mode ≠ .unconfigured → s.slc.line ≠ .resetting → s.slc.resetDrive = .none →
      P (s.requestReset.place (.ack .linkResetRequest))) : Keeps P (execLinkResetRequest s) := by
  unfold execLinkResetRequest
  split
  · split
    · exact .next (hrefuse _)
    · rename_i hmode
      split
      · exact .next (hrefuse _)
      · rename_i hidle
        rw [not_or, not_not] at hidle
        exact .next (hrequest hmode hidle.1 hidle.2)
  · exact .next hs

/-! ## Frames of the other stations (R44 to R46, R80, R81) -/

theorem State.deliver_keeps {α : Type} {h : FrameHeader} {content : Option α} {apply : StationNumber → α → State}
    (hclash : P (s.classA .clash)) (hmisplaced : P s.countMisplaced) (happly : ∀ n c, P (apply n c)) :
    P (s.deliver h content apply) := by
  unfold State.deliver
  split
  · exact hs
  · split
    · exact hclash
    · cases motorSender h with
      | none => exact hmisplaced
      | some n =>
        cases content with
        | none => exact hmisplaced
        | some c => exact happly n c

theorem execMotorFrame_keeps {h : FrameHeader} {c : Instr} (hheard : P s.endReception)
    (hclash : P (s.endReception.classA .clash)) (hmisplaced : P s.endReception.countMisplaced)
    (hstatus : ∀ n q p, P (s.endReception.applyStatus n q p)) (halert : ∀ n q a, P (s.endReception.applySlipAlert n q a))
    (hfault : ∀ n q c, P (s.endReception.applyFault n q c))
    (hc : (∃ p, c = .statusFrame h p) ∨ (∃ p, c = .slipAlertFrame h p) ∨ ∃ p, c = .faultFrame h p) :
    Keeps P (exec c s) := by
  rcases hc with ⟨p, rfl⟩ | ⟨p, rfl⟩ | ⟨p, rfl⟩ <;> refine .guarded hs fun _ => ?_
  · rw [State.deliverStatus_eq]
    exact State.deliver_keeps hheard hclash hmisplaced fun n => hstatus n h.seq
  · rw [State.deliverSlipAlert_eq]
    exact State.deliver_keeps hheard hclash hmisplaced fun n => halert n h.seq
  · rw [State.deliverFault_eq]
    exact State.deliver_keeps hheard hclash hmisplaced fun n => hfault n h.seq

theorem State.deliverDemand_keeps {h : FrameHeader} {p : DemandPayload} (hmisplaced : P s.countMisplaced)
    (happly : ∀ c, P (s.applyDemand h.seq c)) : P (s.deliverDemand h p) := by
  unfold State.deliverDemand
  split
  · exact hs
  · split
    · exact hmisplaced
    · exact happly _

/-! ## Events of the share link (R76, R77, R82 to R85, R87) -/

theorem execClaimWon_keeps
    (hwin : ∀ f, s.slc.transmit = some f → s.slc.line = .window → s.slc.claim = .contending → P (s.winClaim f)) :
    Keeps P (execClaimWon s) := by
  unfold execClaimWon
  split
  · rename_i f hf
    exact .guarded hs fun ⟨hline, hclaim⟩ => hwin f hf hline hclaim
  · exact .next hs

/-- A claim lost (R76). -/
def State.loseClaim (s : State) : State :=
  { s with slc := { s.slc with claim := .waiting, lostClaims := countUp s.slc.lostClaims } }

theorem execClaimLost_keeps {slot : Fin 16} (hlose : s.slc.line = .window → s.slc.claim = .contending → P s.loseClaim) :
    Keeps P (execClaimLost slot s) := by
  unfold execClaimLost
  split
  · exact .guarded hs fun ⟨hline, hclaim, _⟩ => hlose hline hclaim
  · exact .next hs

theorem execFrameSent_keeps
    (hsent : ∀ f, s.slc.line = .frame → s.slc.claim = .sending →
      P ({ s with slc := s.slc.sent : State }.reportSent f).move) :
    Keeps P (execFrameSent s) := by
  unfold execFrameSent
  split
  · exact .guarded hs fun ⟨hline, hclaim⟩ => hsent _ hline hclaim
  · exact .next hs

theorem execEchoCheckFailed_keeps
    (habort : ∀ f, s.slc.transmit = some f → s.slc.claim = .sending → P { s with slc := s.slc.abortOwn f })
    (hdrop : ∀ f, s.slc.transmit = some f → s.slc.claim = .sending → P (s.dropFrame f)) :
    Keeps P (execEchoCheckFailed s) := by
  unfold execEchoCheckFailed
  split
  · rename_i f hf
    split
    · rename_i hclaim
      split
      · exact .next (habort f hf hclaim)
      · exact .next (hdrop f hf hclaim)
    · exact .next hs
  · exact .next hs

theorem execLinkResetSeen_keeps (hreset : P s.linkReset) : Keeps P (execLinkResetSeen s) := by
  unfold execLinkResetSeen
  split
  · exact .next hs
  · exact .next hreset

/-! ## Timers and computations -/

theorem execInterimTimerExpiry_keeps
    (hexpired : P { s with lpt := { s.lpt with interim := .expired }.setNtc s.noticeThreshold }) :
    Keeps P (execInterimTimerExpiry s) := by
  unfold execInterimTimerExpiry
  split
  · exact .next hexpired
  · exact .next hs
  · exact .next hs

theorem execComputationCompletion_keeps
    (hcomplete : ∀ sn, s.spe.state = .busy → s.spe.snapshot = some sn → P (s.complete sn)) :
    Keeps P (execComputationCompletion s) := by
  unfold execComputationCompletion
  split
  · rename_i sn hbusy hsn
    exact .next (hcomplete sn hbusy hsn)
  · exact .next hs
  · exact .next hs

end

/-! ## The Slip Monitor's run over its own events (R121 to R139) -/

theorem Monitor.settleExpiry_off_iff (m : Monitor) : m.settleExpiry.state = .off ↔ m.state = .off := by
  by_cases hsettling : m.state = .settling
  · simp only [Monitor.settleExpiry, hsettling]
    cases m.recovered <;> simp
  · simp [Monitor.settleExpiry, hsettling]

theorem Monitor.finishRecovery_off_iff (m : Monitor) : m.finishRecovery.state = .off ↔ m.state = .off := by
  unfold Monitor.finishRecovery
  split
  · rename_i hends
    have hrecovering : m.state = .recovering := by simp [Monitor.endsRecovery] at hends; exact hends.1
    simp [hrecovering]
  · exact Iff.rfl

theorem Monitor.capStep_state (m : Monitor) (step interval : Nat) (caps : Caps) :
    (m.capStep step interval caps).state = m.state := by
  unfold Monitor.capStep
  split
  · rfl
  · split <;> rfl

section
variable {s : State}

theorem State.senseAndFilter_on (hon : s.slm.state ≠ .off) : s.senseAndFilter.state ≠ .off := by
  rw [State.senseAndFilter, (Monitor.filter_frame _ _ _).1]
  exact Monitor.takeSense_on (by exact hon) _ _

theorem Monitor.block_on {m : Monitor} (hon : m.state ≠ .off) : m.block.state ≠ .off := by
  simp only [Monitor.block]
  split <;> simp [hon]

theorem Monitor.countSlip_on {m : Monitor} (hon : m.state ≠ .off) : m.countSlip.state ≠ .off := by
  simp only [Monitor.countSlip]
  split <;> simp [hon]

theorem Monitor.quietSlip_on {m : Monitor} (hon : m.state ≠ .off) (slip : Nat) : (m.quietSlip slip).state ≠ .off := by
  simp only [Monitor.quietSlip]
  split <;> simp [hon]

/-- A sample moves the monitor, which goes on running, and nothing else, or it is a slip event. -/
theorem State.sample_cases (hon : s.slm.state ≠ .off) :
    (∃ m, m.state ≠ .off ∧ s.sample = { s with slm := m }) ∨ ∃ m slip, s.sample = s.slipEvent m slip := by
  have hrunning := State.senseAndFilter_on hon
  unfold State.sample
  extract_lets m
  split
  · exact .inl ⟨_, Monitor.block_on hrunning, rfl⟩
  · split
    · exact .inl ⟨_, Monitor.block_on hrunning, rfl⟩
    · unfold State.judge
      split
      · split
        · exact .inr ⟨_, _, rfl⟩
        · exact .inl ⟨_, Monitor.countSlip_on hrunning, rfl⟩
      · exact .inl ⟨_, Monitor.quietSlip_on hrunning _, rfl⟩

end

end Sys2Proof.Machine
end

section
/-! PROOFS. The Frame Scheduler stays in order (O59): its collections through every change of the station's mode, and the move
that leaves no frame waiting (R90 to R103). -/

namespace Sys2Proof.Machine

/-! ## Order, and what could move -/

/-- The Frame Scheduler in order, with a frame perhaps about to move: what holds of it within an event, before the event's
move. -/
structure State.SchedulerOrdered (s : State) : Prop where
  capacity : s.fsc.urgent.length ≤ 4
  oneFault : faultCount s.fsc.urgent ≤ 1
  alerts : ∀ a, UrgentFrame.slipAlert a ∈ s.fsc.urgent → s.ssv.mode = .sharing
  health : ∀ f, s.fsc.routine = some f → healthOf s.ssv.mode = some f.health
  publishTimer : s.fsc.publishTimer =
    if s.ssv.mode = .unconfigured then .stopped else .running s.config.publishPeriod
  quiet : s.ssv.mode = .unconfigured → s.fsc.urgent = [] ∧ s.fsc.routine = none
  monitor : s.slm.state = .off ↔ s.ssv.mode ≠ .sharing

section
variable {s t : State}

/-- The Frame Scheduler is safe exactly when it is in order and no frame waits that could move. -/
theorem State.schedulerSafe_iff :
    s.SchedulerSafe ↔ s.SchedulerOrdered ∧ (s.slc.canTake = true → s.fsc.urgent = [] ∧ s.fsc.routine = none) :=
  ⟨fun h => ⟨{ h with }, h.moved⟩, fun h => { h.1 with moved := h.2 }⟩

theorem State.SchedulerSafe.ordered (hs : s.SchedulerSafe) : s.SchedulerOrdered := (State.schedulerSafe_iff.mp hs).1

/-- Where nothing can move, order is enough. -/
theorem State.SchedulerOrdered.safe_of_stay (hs : s.SchedulerOrdered) (hstay : ¬s.slc.canTake = true) : s.SchedulerSafe :=
  State.schedulerSafe_iff.mpr ⟨hs, fun h => absurd h hstay⟩

/-- The order reads the scheduler, the mode, the publish period, and whether the Slip Monitor is OFF. -/
theorem State.SchedulerOrdered.congr (hs : s.SchedulerOrdered) (hfsc : t.fsc = s.fsc) (hmode : t.ssv.mode = s.ssv.mode)
    (hconfig : t.config = s.config) (hoff : t.slm.state = .off ↔ s.slm.state = .off) : t.SchedulerOrdered := by
  constructor
  case publishTimer => rw [hfsc, hmode, hconfig]; exact hs.publishTimer
  case monitor => rw [hoff, hmode]; exact hs.monitor
  all_goals simp only [hfsc, hmode]
  exacts [hs.capacity, hs.oneFault, hs.alerts, hs.health, hs.quiet]

/-- Beside the order, safety reads whether a frame could move. -/
theorem State.SchedulerSafe.congr (hs : s.SchedulerSafe) (hfsc : t.fsc = s.fsc) (hmode : t.ssv.mode = s.ssv.mode)
    (hconfig : t.config = s.config) (hoff : t.slm.state = .off ↔ s.slm.state = .off)
    (hcan : t.slc.canTake = true → s.slc.canTake = true) : t.SchedulerSafe :=
  State.schedulerSafe_iff.mpr ⟨hs.ordered.congr hfsc hmode hconfig hoff, fun h => by rw [hfsc]; exact hs.moved (hcan h)⟩

/-! ## Changes that are none of the scheduler's -/

/-- An operation whose frame laws say that it touches none of this. -/
theorem State.SchedulerSafe.of_frame (hs : s.SchedulerSafe) (hfsc : t.fsc = s.fsc := by simp)
    (hmode : t.ssv.mode = s.ssv.mode := by simp) (hconfig : t.config = s.config := by simp)
    (hoff : t.slm.state = s.slm.state := by simp) (hcan : t.slc.canTake = s.slc.canTake := by simp) : t.SchedulerSafe :=
  hs.congr hfsc hmode hconfig (by rw [hoff]) (by rw [hcan]; exact id)

theorem State.SchedulerSafe.withPort (hs : s.SchedulerSafe) (l : LocalPort) : { s with lpt := l : State }.SchedulerSafe :=
  hs.congr rfl rfl rfl Iff.rfl id

theorem State.SchedulerSafe.withMonitor (hs : s.SchedulerSafe) {m : Monitor} (hoff : m.state = .off ↔ s.slm.state = .off) :
    { s with slm := m : State }.SchedulerSafe :=
  hs.congr rfl rfl rfl hoff id

/-- A change at the link after which nothing can move. -/
theorem State.SchedulerSafe.withLink (hs : s.SchedulerSafe) {c : LinkController} (hstay : ¬c.canTake = true) :
    { s with slc := c : State }.SchedulerSafe :=
  hs.congr rfl rfl rfl Iff.rfl fun h => absurd h hstay

theorem LinkController.not_canTake_of_line {c : LinkController} (h : c.line ≠ .free) : ¬c.canTake = true :=
  fun hcan => h (c.canTake_iff.mp hcan).1

theorem LinkController.not_canTake_of_transmit {c : LinkController} (h : c.transmit ≠ none) : ¬c.canTake = true :=
  fun hcan => h (c.canTake_iff.mp hcan).2.1

theorem LinkController.not_canTake_of_drive {c : LinkController} (h : c.resetDrive ≠ .none) : ¬c.canTake = true :=
  fun hcan => h (c.canTake_iff.mp hcan).2.2

/-! ## The move (R98) -/

theorem faultCount_le_cons (u : UrgentFrame) (us : List UrgentFrame) : faultCount us ≤ faultCount (u :: us) := by
  cases u with
  | slipAlert a => exact le_rfl
  | fault c => exact Nat.le_succ _

/-- What is left behind by a frame that moves is in order. -/
theorem State.SchedulerOrdered.take (hs : s.SchedulerOrdered) (hmode : s.ssv.mode ≠ .unconfigured) {f : OwnFrame}
    {rest : Scheduler} (htake : s.fsc.take = some (f, rest)) (c : LinkController) :
    { s with fsc := rest, slc := c : State }.SchedulerOrdered := by
  rcases s.fsc.take_cases f rest htake with ⟨u, us, hurgent, -, rfl⟩ | ⟨w, -, -, -, rfl⟩
  · exact
      { hs with
        capacity := Nat.le_of_succ_le (hurgent ▸ hs.capacity :)
        oneFault := (faultCount_le_cons u us).trans (hurgent ▸ hs.oneFault)
        alerts := fun a ha => hs.alerts a (hurgent ▸ List.mem_cons_of_mem u ha)
        quiet := fun h => absurd h hmode }
  · exact
      { hs with
        health := fun f hf => by cases hf
        quiet := fun h => absurd h hmode }

/-- The move leaves no frame waiting that could move: one that moves fills the transmit buffer. -/
theorem State.SchedulerOrdered.move (hs : s.SchedulerOrdered) : s.move.SchedulerSafe := by
  by_cases hcan : s.slc.canTake = true
  · by_cases hmode : s.ssv.mode = .unconfigured
    · rw [State.move_of_stay (.inr (.inl hmode))]
      exact State.schedulerSafe_iff.mpr ⟨hs, fun _ => hs.quiet hmode⟩
    · cases htake : s.fsc.take with
      | none =>
        rw [State.move_of_stay (.inr (.inr htake))]
        exact State.schedulerSafe_iff.mpr ⟨hs, fun _ => s.fsc.take_none.mp htake⟩
      | some taken =>
        rw [State.move_of_take hcan hmode htake]
        exact (hs.take hmode htake _).safe_of_stay (LinkController.not_canTake_of_transmit (by simp))
  · rw [State.move_of_stay (.inl hcan)]
    exact hs.safe_of_stay hcan

/-! ## A waiting STATUS replaced (R95) -/

theorem State.assemble_health {f : StatusFrame} (hf : s.assemble = some f) : healthOf s.ssv.mode = some f.health := by
  obtain ⟨health, hhealth, rfl⟩ := Option.map_eq_some_iff.mp hf
  exact hhealth

/-- Whatever health the waiting STATUS had, its replacement has that of the mode. -/
theorem State.replaceRoutine_health {f : StatusFrame} (hf : s.replaceRoutine.fsc.routine = some f) :
    healthOf s.ssv.mode = some f.health := by
  have hreplaced : s.fsc.routine.isSome = true ∧ s.assemble = some f := by simpa [State.replaceRoutine] using hf
  exact State.assemble_health hreplaced.2

/-- With its waiting STATUS replaced a configured station is in order, whichever mode that STATUS was assembled in. -/
theorem State.replaceRoutine_ordered (hmode : s.ssv.mode ≠ .unconfigured) (hcapacity : s.fsc.urgent.length ≤ 4)
    (hfault : faultCount s.fsc.urgent ≤ 1) (halerts : ∀ a, UrgentFrame.slipAlert a ∈ s.fsc.urgent → s.ssv.mode = .sharing)
    (htimer : s.fsc.publishTimer = .running s.config.publishPeriod) (hmonitor : s.slm.state = .off ↔ s.ssv.mode ≠ .sharing) :
    s.replaceRoutine.SchedulerOrdered where
  capacity := hcapacity
  oneFault := hfault
  alerts := halerts
  health _ hf := State.replaceRoutine_health (s := s) hf
  publishTimer := by rw [State.replaceRoutine_ssv, if_neg hmode]; exact htimer
  quiet h := absurd h hmode
  monitor := hmonitor

end

/-! ## Changes of the station mode -/

section
variable {s : State} (hs : s.SchedulerOrdered)
include hs

theorem State.SchedulerOrdered.publishTimer_running (hmode : s.ssv.mode ≠ .unconfigured) :
    s.fsc.publishTimer = .running s.config.publishPeriod := by rw [hs.publishTimer, if_neg hmode]

theorem State.SchedulerOrdered.no_alerts (hmode : s.ssv.mode ≠ .sharing) (a : SlipAlert) : .slipAlert a ∉ s.fsc.urgent :=
  fun ha => hmode (hs.alerts a ha)

/-- The Slip Monitor is OFF once SHARING is left (R120). -/
theorem State.SchedulerOrdered.leaveSharing_off : s.leaveSharing.slm.state = .off := by
  by_cases hmode : s.ssv.mode = .sharing
  · rw [State.leaveSharing_of_sharing hmode]
    rfl
  · rw [State.leaveSharing_of_not_sharing hmode]
    exact hs.monitor.mpr hmode

/-- SAFE entry leaves one FAULT in the urgent queue, and no SLIP ALERT (R97, R149). -/
theorem State.SchedulerOrdered.enterSafe (hmode : s.ssv.mode ≠ .unconfigured) (c : FaultCause) :
    (s.enterSafe c).SchedulerSafe := by
  have hqueue := queueFault_eq c s.fsc.urgent hs.oneFault
  have hgone : (s.goSafe c).SchedulerOrdered :=
    State.replaceRoutine_ordered (by simp [Supervisor.enterSafe]) (by simp [hqueue]) (by rw [hqueue]; exact le_rfl)
      (by simp [hqueue]) (by simpa using hs.publishTimer_running hmode)
      (by simp [hs.leaveSharing_off, Supervisor.enterSafe])
  exact State.SchedulerOrdered.move (hgone.congr rfl rfl rfl Iff.rfl)

theorem State.SchedulerOrdered.classA (c : FaultCause) : (s.classA c).SchedulerOrdered :=
  State.classA_keeps hs
    (fun hmode _ => (hs.enterSafe hmode c).ordered) (fun _ => hs.congr rfl rfl rfl Iff.rfl)

/-- Entry into SHARING starts the Slip Monitor (R119, R147). -/
theorem State.SchedulerOrdered.enterSharing (hmode : s.ssv.mode = .announcing) : s.enterSharing.SchedulerOrdered := by
  refine State.replaceRoutine_ordered (by simp) hs.capacity hs.oneFault (fun _ _ => rfl)
    (hs.publishTimer_running (by simp [hmode])) ?_
  exact iff_of_false (Monitor.startSettling_on _ _) (by simp)

theorem State.SchedulerOrdered.reportSent (f : OwnFrame) : (s.reportSent f).SchedulerOrdered := by
  have hcounted : ∀ n, { s with ssv := { s.ssv with joinCount := n } : State }.SchedulerOrdered :=
    fun _ => hs.congr rfl rfl rfl Iff.rfl
  simp only [State.reportSent]
  split
  · rename_i hthird
    exact (hcounted _).enterSharing hthird.1
  · exact hcounted _

/-- Out of SAFE, where no SLIP ALERT waits and the Slip Monitor is OFF, a RESUME goes back to ANNOUNCING (R152). -/
theorem State.SchedulerOrdered.resumeJoin (hmode : s.ssv.mode = .safe) : s.resumeJoin.SchedulerSafe := by
  refine State.SchedulerOrdered.move (State.replaceRoutine_ordered (by simp) hs.capacity hs.oneFault ?_
    (hs.publishTimer_running (by simp [hmode])) ?_)
  · exact fun a ha => absurd ha (hs.no_alerts (by simp [hmode]) a)
  · simpa using hs.monitor.mpr (by simp [hmode])

/-- A link reset seen empties both collections and takes the station out of SHARING (R103, R120, R156). -/
theorem State.SchedulerOrdered.linkReset : s.linkReset.SchedulerSafe := by
  have hoff : (s.slm.linkReset s.ssv.mode).state = .off := by
    unfold Monitor.linkReset
    split
    · rfl
    · exact hs.monitor.mpr ‹_›
  exact
    { capacity := Nat.zero_le _
      oneFault := Nat.zero_le _
      alerts := fun a ha => by cases ha
      health := fun f hf => by cases hf
      publishTimer := by
        simpa only [State.linkReset, State.notify_fsc, State.notify_ssv, State.notify_config,
          Supervisor.linkReset_unconfigured_iff] using hs.publishTimer
      quiet := fun _ => ⟨rfl, rfl⟩
      moved := fun _ => ⟨rfl, rfl⟩
      monitor := iff_of_true hoff s.ssv.linkReset_not_sharing }

/-- A second echo failure: the collections are as they were, or a FAULT is queued for LINK_MUTE (R84). -/
theorem State.SchedulerOrdered.dropFrame (f : TransmitFrame) : (s.dropFrame f).SchedulerSafe := by
  have hdropped : (s.frameDropped f).SchedulerOrdered := hs.congr rfl rfl rfl Iff.rfl
  rw [State.dropFrame_eq]
  split
  · exact (hdropped.classA _).move
  · exact hdropped.move

/-- A slip event queues a SLIP ALERT, in SHARING, where the Slip Monitor runs (R96, R135, R136). -/
theorem State.SchedulerOrdered.slipEvent (hon : s.slm.state ≠ .off) (m : Monitor) (slip : Nat) :
    (s.slipEvent m slip).SchedulerSafe := by
  have hmode : s.ssv.mode = .sharing := not_not.mp fun h => hon (hs.monitor.mpr h)
  refine State.SchedulerOrdered.move ?_
  exact
    { capacity := length_queueAlert_le _ _ hs.capacity
      oneFault := (faultCount_queueAlert _ _).trans_le hs.oneFault
      alerts := fun _ _ => hmode
      health := hs.health
      publishTimer := hs.publishTimer
      quiet := fun h => absurd (hmode.symm.trans h) (by decide)
      monitor := by simp [hmode, Monitor.slipEvent] }

/-- The STATUS a running publish timer puts into the slot has the health of the mode (R91, R92). -/
theorem State.SchedulerOrdered.publish (hrun : s.fsc.publishTimer.isRunning = true) : s.publish.SchedulerSafe := by
  have hmode : s.ssv.mode ≠ .unconfigured := by
    intro h
    rw [hs.publishTimer, if_pos h] at hrun
    cases hrun
  refine State.SchedulerOrdered.move ?_
  exact
    { hs with
      health := fun _ hf => State.assemble_health hf
      publishTimer := (if_neg hmode).symm
      quiet := fun h => absurd h hmode }

end

/-! ## Every command -/

/-- A part reset leaves nothing queued and the publish timer stopped (R90). -/
theorem State.afterReset_schedulerSafe (pending : List Instr) (timebase : TimeStamp) (cause : ResetCause)
    (n : StationNumber) : (State.afterReset pending timebase cause n).SchedulerSafe where
  capacity := Nat.zero_le _
  oneFault := Nat.zero_le _
  alerts a ha := by cases ha
  health f hf := by cases hf
  publishTimer := rfl
  quiet _ := ⟨rfl, rfl⟩
  moved _ := ⟨rfl, rfl⟩
  monitor := iff_of_true rfl fun h => by cases h

/-- A reset drive asked for holds the next frame back (R86, R98). -/
theorem LinkController.requestReset_stays (c : LinkController) : ¬c.requestReset.canTake = true := by
  refine LinkController.not_canTake_of_drive ?_
  simp only [LinkController.requestReset]
  split <;> simp

section
variable {s : State} (hs : s.SchedulerSafe)
include hs

theorem State.SchedulerSafe.place (r : Reply) : (s.place r).SchedulerSafe := hs.withPort _

theorem State.SchedulerSafe.endExchange : s.endExchange.SchedulerSafe := hs.withPort _

theorem State.SchedulerSafe.endReception : s.endReception.SchedulerSafe := hs.congr rfl rfl rfl Iff.rfl id

theorem State.SchedulerSafe.classA (c : FaultCause) : (s.classA c).SchedulerSafe :=
  State.classA_keeps hs (fun hmode _ => hs.ordered.enterSafe hmode c)
    (fun _ => hs.congr rfl rfl rfl Iff.rfl id)

/-- At SETUP nothing is queued and the publish timer starts (R90). -/
theorem State.SchedulerSafe.acceptSetup (hmode : s.ssv.mode = .unconfigured) (c : Setup) :
    (s.acceptSetup c).SchedulerSafe := by
  obtain ⟨hurgent, hroutine⟩ := hs.quiet hmode
  have hoff : s.slm.state = .off := hs.monitor.mpr (by simp [hmode])
  have hempty : (s.acceptSetup c).fsc.urgent = [] ∧ (s.acceptSetup c).fsc.routine = none := ⟨hurgent, hroutine⟩
  exact
    { capacity := by simp [hempty.1]
      oneFault := by rw [hempty.1]; exact Nat.zero_le _
      alerts := by simp [hempty.1]
      health := by simp [hempty.2]
      publishTimer := rfl
      quiet := fun _ => hempty
      moved := fun _ => hempty
      monitor := iff_of_true hoff fun h => by cases h }

theorem State.SchedulerSafe.acceptMeasure (r : MeasureRecord) : (s.acceptMeasure r).SchedulerSafe := by
  have hmode : (s.acceptMeasure r).ssv.mode = s.ssv.mode := by
    rw [State.acceptMeasure_eq]
    split <;> simp [State.measureNoted]
  exact hs.of_frame (hmode := hmode)

/-- A claim won keeps its frame in the transmit buffer, and moves the own sequence number only. -/
theorem State.SchedulerSafe.winClaim {f : TransmitFrame} (hf : s.slc.transmit = some f) : (s.winClaim f).SchedulerSafe := by
  obtain ⟨-, -, -, g, hg, -⟩ := State.winClaim_link hf
  refine State.SchedulerOrdered.safe_of_stay ?_ (LinkController.not_canTake_of_transmit (by simp [hg]))
  by_cases hfirst : f.seq = none
  · rw [State.winClaim_first hfirst]
    exact { hs with }
  · rw [State.winClaim_retry hfirst]
    exact hs.ordered.congr rfl rfl rfl Iff.rfl

theorem State.SchedulerSafe.deliverDemand (h : FrameHeader) (p : DemandPayload) : (s.deliverDemand h p).SchedulerSafe :=
  State.deliverDemand_keeps hs (hs.congr rfl rfl rfl Iff.rfl id) fun _ => hs.of_frame

theorem State.SchedulerSafe.sendReply (r : Reply) : (s.sendReply r).SchedulerSafe := hs.of_frame

theorem State.SchedulerSafe.sample (hon : s.slm.state ≠ .off) : s.sample.SchedulerSafe := by
  rcases State.sample_cases hon with ⟨m, hm, h⟩ | ⟨m, slip, h⟩ <;> rw [h]
  · exact hs.withMonitor (iff_of_false hm hon)
  · exact hs.ordered.slipEvent hon m slip

theorem State.SchedulerSafe.afterRecovery {m : Monitor} (hm : m.state = s.slm.state) :
    (s.afterRecovery m).SchedulerSafe := by
  have hfinished := hs.withMonitor (m := m.finishRecovery) (by rw [Monitor.finishRecovery_off_iff, hm])
  simp only [State.afterRecovery]
  split
  · exact hfinished.withPort _
  · exact hfinished

/-- A frame of a motor station touches the Frame Scheduler where it is a clash only. -/
theorem execMotorFrame_schedulerKept {h : FrameHeader} {c : Instr}
    (hc : (∃ p, c = .statusFrame h p) ∨ (∃ p, c = .slipAlertFrame h p) ∨ ∃ p, c = .faultFrame h p) :
    Keeps State.SchedulerSafe (exec c s) := by
  have hheard := hs.endReception
  exact execMotorFrame_keeps hs hheard (hheard.classA _) (hheard.congr rfl rfl rfl Iff.rfl id)
    (fun _ _ _ => hheard.of_frame) (fun _ _ _ => hheard.of_frame) (fun _ _ _ => hheard.of_frame) hc

/-- Every command keeps the Frame Scheduler safe. -/
theorem exec_schedulerKept (i : Instr) : Keeps State.SchedulerSafe (exec i s) := by
  have hended := hs.endExchange
  cases i with
  | partReset powerOn stn0 stn1 stn2 => exact .next (State.afterReset_schedulerSafe ..)
  | exchangeStart => exact execExchangeStart_keeps hs hs.sendReply hs.of_frame
  | shortExchange wholeBytes => exact .guarded hs fun _ => hended.place _
  | checkByteFail => exact .guarded hs fun _ => hended.place _
  | unknownRecordKind code => exact .guarded hs fun _ => hended.place _
  | setup r => exact execSetup_keeps hs (fun _ _ => hended.place _) fun hmode _ _ => hended.acceptSetup hmode _
  | measure r => exact execMeasure_keeps hs (hended.place _) fun _ => hended.acceptMeasure r
  | takeNotice => exact .guarded hs fun _ => hended.place _
  | readPeer station => exact execReadPeer_keeps hs (fun _ => hended.place _) (hended.place _)
  | safeRequest => exact execSafeRequest_keeps hs (hended.place _) ((hended.classA _).place _)
  | resume =>
    exact execResume_keeps hs (fun _ => hended.place _) fun hmode => (hended.ordered.resumeJoin hmode).place _
  | linkResetRequest =>
    exact execLinkResetRequest_keeps hs (fun _ => hended.place _) fun _ _ _ =>
      (hended.withLink s.slc.requestReset_stays).place _
  | nop => exact .guarded hs fun _ => hended
  | windowStart => exact .guarded hs fun _ => hs.withLink (LinkController.not_canTake_of_line (by simp))
  | claimWon => exact execClaimWon_keeps hs fun f hf _ _ => hs.winClaim hf
  | claimLost slot =>
    exact execClaimLost_keeps hs fun hline _ => hs.withLink (LinkController.not_canTake_of_line (by simp [hline]))
  | frameStart => exact .guarded hs fun _ => hs.withLink (LinkController.not_canTake_of_line (by simp))
  | busFreeTime => exact .guarded hs fun _ => State.SchedulerOrdered.move (hs.ordered.congr rfl rfl rfl Iff.rfl)
  | demandFrame h p => exact .guarded hs fun _ => hs.endReception.deliverDemand h p
  | statusFrame h p => exact execMotorFrame_schedulerKept hs (.inl ⟨p, rfl⟩)
  | slipAlertFrame h p => exact execMotorFrame_schedulerKept hs (.inr (.inl ⟨p, rfl⟩))
  | faultFrame h p => exact execMotorFrame_schedulerKept hs (.inr (.inr ⟨p, rfl⟩))
  | receiveError cause => exact .guarded hs fun _ => hs.congr rfl rfl rfl Iff.rfl id
  | frameSent =>
    have hsent : { s with slc := s.slc.sent : State }.SchedulerOrdered := hs.ordered.congr rfl rfl rfl Iff.rfl
    exact execFrameSent_keeps hs fun f _ _ => (hsent.reportSent f).move
  | echoCheckFailed =>
    exact execEchoCheckFailed_keeps hs
      (fun f _ _ => hs.withLink (LinkController.not_canTake_of_transmit (by simp [LinkController.abortOwn])))
      (fun f _ _ => hs.ordered.dropFrame f)
  | resetDriveBegin => exact .guarded hs fun _ => hs.withLink (LinkController.not_canTake_of_drive (by simp))
  | linkResetSeen => exact execLinkResetSeen_keeps hs hs.ordered.linkReset
  | resetDriveRelease => exact .guarded hs fun _ => State.SchedulerOrdered.move (hs.ordered.congr rfl rfl rfl Iff.rfl)
  | resettingReleased => exact .guarded hs fun _ => hs.withLink (LinkController.not_canTake_of_line (by simp))
  | publishTimerExpiry => exact .guarded hs fun hrun => hs.ordered.publish hrun
  | demandTimerExpiry => exact .guarded hs fun _ => hs.of_frame
  | silenceTimerExpiry peer => exact .guarded hs fun _ => hs.of_frame
  | measureTimerExpiry =>
    have hrestarted : { s with
        ssv := { s.ssv with measureTimer := .running s.config.measureTimeout } : State }.SchedulerSafe := hs.of_frame
    exact .guarded hs fun _ =>
      State.measureExpired_keeps hrestarted (hrestarted.classA _) (hrestarted.congr rfl rfl rfl Iff.rfl id)
  | computationCompletion => exact execComputationCompletion_keeps hs fun sn _ _ => hs.of_frame
  | toothEdge ch time => exact .guarded hs fun _ => hs.of_frame
  | stopTimerExpiry ch => exact .guarded hs fun _ => hs.of_frame
  | slipSample =>
    refine .guarded hs fun hsamples => hs.sample ?_
    simp only [Bool.and_eq_true, bne_iff_ne] at hsamples
    exact hsamples.2
  | settleTimerExpiry => exact .guarded hs fun _ => hs.withMonitor s.slm.settleExpiry_off_iff
  | gripRecoveryExpiry => exact .guarded hs fun _ => hs.afterRecovery rfl
  | capRecoveryExpiry => exact .guarded hs fun _ => hs.afterRecovery (Monitor.capStep_state ..)
  | interimTimerExpiry => exact execInterimTimerExpiry_keeps hs (hs.withPort _)
  | millisecondTick => exact .next (hs.withPort _)

end

/-- Settles O59: the queue of commands is no item of the scheduler, and every command keeps it safe. -/
theorem schedulerStaysSafe : Obligations.SchedulerStaysSafe := by
  unfold Obligations.SchedulerStaysSafe
  intro s t hs hstep
  exact step_keeps (fun _ => hs.of_frame) (fun i _ hu => exec_schedulerKept hu i) hstep

end Sys2Proof.Machine
end

section
/-! PROOFS. The Wheel Capture Unit: each tooth edge and each stop (chapter 6). -/

namespace Sys2Proof.Machine

/-! ## An accepted period, and the axle speed it leaves (R110, R111, R113) -/

theorem pushPeriod_eq (ring : List Nat) (p : Nat) :
    pushPeriod ring p = (if ring.length < 4 then ring else ring.drop 1) ++ [p] :=
  (apply_ite (· ++ [p]) (ring.length < 4) ring (ring.drop 1)).symm

theorem WheelUnit.setSpeed_a (w : WheelUnit) {c : WheelChannel} (hc : c.enabled = true) :
    w.setSpeed .a c = ⟨c, w.chB, if w.chB.enabled then (c.speed + w.chB.speed) / 2 else c.speed⟩ := by
  cases hb : w.chB.enabled <;> simp [WheelUnit.setSpeed, meanSpeed, hc, hb]

theorem WheelUnit.setSpeed_b (w : WheelUnit) {c : WheelChannel} (hc : c.enabled = true) :
    w.setSpeed .b c = ⟨w.chA, c, if w.chA.enabled then (w.chA.speed + c.speed) / 2 else c.speed⟩ := by
  cases ha : w.chA.enabled <;> simp [WheelUnit.setSpeed, meanSpeed, hc, ha]

/-! ## TOOTH_EDGE (R105, R107 to R110) -/

section
variable {s : State} {ch : Channel} {time last : TimeStamp}

theorem exec_toothEdge_disabled (hon : (s.wcu.channel ch).enabled = false) : exec (.toothEdge ch time) s = .next s :=
  if_neg (by simp [hon])

theorem exec_toothEdge_enabled (hon : (s.wcu.channel ch).enabled = true) :
    exec (.toothEdge ch time) s = .next (s.wheelEdge ch time) := if_pos hon

theorem State.wheelEdge_first (hlast : (s.wcu.channel ch).lastEdge = none) :
    s.wheelEdge ch time =
      { s with timebase := time, wcu := s.wcu.setChannel ch ((s.wcu.channel ch).firstEdge time) } := by
  simp only [State.wheelEdge, WheelUnit.edge, hlast]

theorem State.wheelEdge_rejected (hlast : (s.wcu.channel ch).lastEdge = some last)
    (hshort : edgePeriod last time < s.config.minToothPeriod) :
    s.wheelEdge ch time = { s with timebase := time, wcu := s.wcu.setChannel ch (s.wcu.channel ch).rejectEdge } := by
  simp only [State.wheelEdge, WheelUnit.edge, hlast, if_pos hshort]

theorem State.wheelEdge_accepted (hlast : (s.wcu.channel ch).lastEdge = some last)
    (hlong : s.config.minToothPeriod ≤ edgePeriod last time) :
    s.wheelEdge ch time =
      { s with
        timebase := time
        wcu := s.wcu.setSpeed ch ((s.wcu.channel ch).acceptEdge s.config time (edgePeriod last time)) } := by
  simp only [State.wheelEdge, WheelUnit.edge, hlast, if_neg hlong.not_gt]

end

/-! ## STOP_TIMER_EXPIRY (R112, R113) -/

theorem exec_stopTimerExpiry {s : State} {ch : Channel} {ms : Nat} (hrun : (s.wcu.channel ch).stopTimer = .running ms) :
    exec (.stopTimerExpiry ch) s = .next { s with wcu := s.wcu.setSpeed ch (s.wcu.channel ch).stop } :=
  if_pos (by simp [hrun, Timer.isRunning])

/-- A stopped channel A counts in the mean with speed 0. -/
theorem meanSpeed_stop_left (a b : WheelChannel) :
    meanSpeed a.stop b = match a.enabled, b.enabled with
      | true, true => b.speed / 2
      | false, true => b.speed
      | _, false => 0 := by
  cases ha : a.enabled <;> cases hb : b.enabled <;> simp [meanSpeed, WheelChannel.stop, ha, hb]

/-- A stopped channel B counts in the mean with speed 0. -/
theorem meanSpeed_stop_right (a b : WheelChannel) :
    meanSpeed a b.stop = match a.enabled, b.enabled with
      | true, true => a.speed / 2
      | true, false => a.speed
      | false, _ => 0 := by
  cases ha : a.enabled <;> cases hb : b.enabled <;> simp [meanSpeed, WheelChannel.stop, ha, hb]

/-! ## Both commands -/

/-- Settles O46: an edge by the outcomes it has at an enabled channel, a stop by the axle speed it leaves. -/
theorem wheelEvents : Obligations.WheelEvents := by
  refine ⟨fun ch time s => ⟨exec_toothEdge_disabled (ch := ch), fun hon hlast => ?_, fun last hon hlast =>
    ⟨fun hshort => ?_, fun hlong => ?_⟩⟩, fun ms s => ⟨fun hrun => ?_, fun hrun => ?_⟩⟩
  · rw [exec_toothEdge_enabled (ch := ch) hon, State.wheelEdge_first (ch := ch) hlast]
    cases ch <;> rfl
  · rw [exec_toothEdge_enabled (ch := ch) hon, State.wheelEdge_rejected (ch := ch) hlast hshort]
    cases ch <;> rfl
  · rw [exec_toothEdge_enabled (ch := ch) hon, State.wheelEdge_accepted (ch := ch) hlast hlong, WheelChannel.acceptEdge,
      pushPeriod_eq]
    cases ch with
    | a =>
      rw [WheelUnit.setSpeed_a]
      · rfl
      · exact hon
    | b =>
      rw [WheelUnit.setSpeed_b]
      · rfl
      · exact hon
  · rw [exec_stopTimerExpiry (ch := .a) hrun, WheelUnit.setSpeed, meanSpeed_stop_left]
    rfl
  · rw [exec_stopTimerExpiry (ch := .b) hrun, WheelUnit.setSpeed, meanSpeed_stop_right]
    rfl

end Sys2Proof.Machine
end

section
/-! PROOFS. The tooth wheels stay legal (O55): each change of a channel, the frame of every operation that leaves the wheels
alone, and every command. -/

namespace Sys2Proof.Machine

/-! ## A channel (R105 to R112) -/

theorem pushPeriod_ne_nil (ring : List Nat) (p : Nat) : pushPeriod ring p ≠ [] := by simp [pushPeriod_eq]

theorem length_pushPeriod_le {ring : List Nat} (h : ring.length ≤ 4) (p : Nat) : (pushPeriod ring p).length ≤ 4 := by
  rw [pushPeriod_eq]
  split <;> simp <;> omega

theorem mem_pushPeriod {ring : List Nat} {p q : Nat} (h : q ∈ pushPeriod ring p) : q ∈ ring ∨ q = p := by
  rw [pushPeriod_eq, List.mem_append, List.mem_singleton] at h
  refine h.imp_left fun hq => ?_
  split at hq
  · exact hq
  · exact List.mem_of_mem_drop hq

/-- A channel at rest: nothing held (R106, R112). -/
theorem WheelChannel.legal_of_rest {c : WheelChannel} {cfg : Setup} (hlast : c.lastEdge = none) (hring : c.ring = [])
    (hspeed : c.speed = 0) (htimer : c.stopTimer = .stopped) (hrejected : c.rejected ≤ 255) : c.Legal cfg where
  ring := by simp [hring]
  timer := by simp [hlast, htimer]
  speed := by simp [hring, hspeed]
  rest _ := hring
  disabled _ := hlast
  rejected := hrejected

namespace WheelChannel.Legal

variable {c : WheelChannel} {cfg : Setup} (h : c.Legal cfg)
include h

theorem firstEdge (hon : c.enabled = true) (hlast : c.lastEdge = none) (time : TimeStamp) :
    (c.firstEdge time).Legal cfg :=
  { h with
    timer := rfl
    rest := fun _ => h.rest hlast
    disabled := fun hoff => absurd (hon.symm.trans hoff) (by decide) }

theorem rejectEdge : c.rejectEdge.Legal cfg := { h with rejected := countUp_le _ }

theorem acceptEdge (hon : c.enabled = true) {period : Nat} (hlong : cfg.minToothPeriod ≤ period) (time : TimeStamp) :
    (c.acceptEdge cfg time period).Legal cfg where
  ring := ⟨length_pushPeriod_le h.ring.1 period, fun p hp => (mem_pushPeriod hp).elim (h.ring.2 p) fun hp => hp ▸ hlong⟩
  timer := rfl
  speed := (if_neg (pushPeriod_ne_nil c.ring period)).symm
  rest hlast := by cases hlast
  disabled hoff := absurd (hon.symm.trans hoff) (by decide)
  rejected := h.rejected

theorem stop : c.stop.Legal cfg := legal_of_rest rfl rfl rfl rfl h.rejected

theorem configured (enabled : Bool) (cfg' : Setup) : (c.configured enabled).Legal cfg' :=
  legal_of_rest rfl rfl rfl rfl h.rejected

theorem clearRejected : { c with rejected := 0 : WheelChannel }.Legal cfg := { h with rejected := Nat.zero_le _ }

end WheelChannel.Legal

/-! ## The mode over the operations that change it -/

section
variable (s : State)

theorem State.classA_unconfigured_iff (c : FaultCause) :
    (s.classA c).ssv.mode = .unconfigured ↔ s.ssv.mode = .unconfigured := by
  rw [State.classA_mode]
  split <;> simp [*]

theorem State.reportSent_unconfigured_iff (f : OwnFrame) :
    (s.reportSent f).ssv.mode = .unconfigured ↔ s.ssv.mode = .unconfigured := by
  simp only [State.reportSent]
  split
  · rename_i hthird
    exact iff_of_false (by simp [State.enterSharing]) (by simp [hthird.1])
  · exact Iff.rfl

theorem State.dropFrame_unconfigured_iff (f : TransmitFrame) :
    (s.dropFrame f).ssv.mode = .unconfigured ↔ s.ssv.mode = .unconfigured := by
  rw [State.dropFrame_eq]
  split <;> rw [State.move_ssv]
  · exact (s.frameDropped f).classA_unconfigured_iff .linkMute
  · rfl

theorem State.measureExpired_unconfigured_iff :
    s.measureExpired.ssv.mode = .unconfigured ↔ s.ssv.mode = .unconfigured :=
  State.measureExpired_keeps (P := fun t => t.ssv.mode = .unconfigured ↔ s.ssv.mode = .unconfigured) Iff.rfl
    (s.classA_unconfigured_iff _) Iff.rfl

end

/-! ## The wheel unit (R105, R113) -/

theorem meanSpeed_congr {a a' b b' : WheelChannel} (ha : a.enabled = a'.enabled) (hspeedA : a.speed = a'.speed)
    (hb : b.enabled = b'.enabled) (hspeedB : b.speed = b'.speed) : meanSpeed a b = meanSpeed a' b' := by
  simp only [meanSpeed, ha, hspeedA, hb, hspeedB]

theorem meanSpeed_configured (a b : WheelChannel) (onA onB : Bool) :
    meanSpeed (a.configured onA) (b.configured onB) = 0 := by
  cases onA <;> cases onB <;> simp [meanSpeed, WheelChannel.configured, WheelChannel.afterReset]

section
variable {s t : State}

/-- A state with these wheels, this configuration, and a station configured or not as before, is safe. -/
theorem State.WheelSafe.of_frame (hs : s.WheelSafe) (hwcu : t.wcu = s.wcu := by simp)
    (hconfig : t.config = s.config := by simp)
    (hmode : t.ssv.mode = .unconfigured ↔ s.ssv.mode = .unconfigured := by simp) : t.WheelSafe where
  chA := by rw [hwcu, hconfig]; exact hs.chA
  chB := by rw [hwcu, hconfig]; exact hs.chB
  axle := by rw [hwcu]; exact hs.axle
  enableA := by rw [hwcu, ne_eq, hmode]; exact hs.enableA
  enableB := by rw [hwcu, hconfig, ne_eq, hmode]; exact hs.enableB

theorem State.WheelSafe.channel (hs : s.WheelSafe) (ch : Channel) : (s.wcu.channel ch).Legal s.config := by
  cases ch with
  | a => exact hs.chA
  | b => exact hs.chB

/-- A channel replaced by a legal one, enabled as before, with the axle speed recomputed (R113). -/
theorem State.WheelSafe.setSpeed (hs : s.WheelSafe) {ch : Channel} {c : WheelChannel} (hc : c.Legal s.config)
    (henabled : c.enabled = (s.wcu.channel ch).enabled) : { s with wcu := s.wcu.setSpeed ch c : State }.WheelSafe := by
  cases ch with
  | a => exact { hs with chA := hc, axle := rfl, enableA := henabled ▸ hs.enableA }
  | b => exact { hs with chB := hc, axle := rfl, enableB := henabled ▸ hs.enableB }

/-- A channel replaced by a legal one of the same speed, enabled as before, the axle speed kept. -/
theorem State.WheelSafe.setChannel (hs : s.WheelSafe) {ch : Channel} {c : WheelChannel} (hc : c.Legal s.config)
    (henabled : c.enabled = (s.wcu.channel ch).enabled) (hspeed : c.speed = (s.wcu.channel ch).speed) :
    { s with wcu := s.wcu.setChannel ch c : State }.WheelSafe := by
  cases ch with
  | a =>
    have hmean : s.wcu.axleSpeed = meanSpeed c s.wcu.chB := hs.axle.trans (meanSpeed_congr henabled hspeed rfl rfl).symm
    exact { hs with chA := hc, axle := hmean, enableA := henabled ▸ hs.enableA }
  | b =>
    have hmean : s.wcu.axleSpeed = meanSpeed s.wcu.chA c := hs.axle.trans (meanSpeed_congr rfl rfl henabled hspeed).symm
    exact { hs with chB := hc, axle := hmean, enableB := henabled ▸ hs.enableB }

/-- An edge at an enabled channel, by its three outcomes (R107 to R110). -/
theorem State.WheelSafe.wheelEdge (hs : s.WheelSafe) {ch : Channel} (hon : (s.wcu.channel ch).enabled = true)
    (time : TimeStamp) : (s.wheelEdge ch time).WheelSafe := by
  have hc := hs.channel ch
  cases hlast : (s.wcu.channel ch).lastEdge with
  | none =>
    rw [State.wheelEdge_first hlast]
    exact (hs.setChannel (hc.firstEdge hon hlast time) rfl rfl).of_frame
  | some last =>
    rcases Nat.lt_or_ge (edgePeriod last time) s.config.minToothPeriod with hshort | hlong
    · rw [State.wheelEdge_rejected hlast hshort]
      exact (hs.setChannel hc.rejectEdge rfl rfl).of_frame
    · rw [State.wheelEdge_accepted hlast hlong]
      exact (hs.setSpeed (hc.acceptEdge hon hlong time) rfl).of_frame

/-- SETUP acceptance enables the channels by the channel count (R105, R106). -/
theorem State.WheelSafe.acceptSetup (hs : s.WheelSafe) (c : Setup) : (s.acceptSetup c).WheelSafe where
  chA := hs.chA.configured true c
  chB := hs.chB.configured (c.channelCount == 2) c
  axle := (meanSpeed_configured _ _ _ _).symm
  enableA := iff_of_true rfl fun h => by cases h
  enableB := by
    change (c.channelCount == 2) = true ↔ StationMode.announcing ≠ .unconfigured ∧ c.channelCount = 2
    simp

theorem State.WheelSafe.sendState (hs : s.WheelSafe) : s.sendState.WheelSafe where
  chA := hs.chA.clearRejected
  chB := hs.chB.clearRejected
  axle := hs.axle
  enableA := hs.enableA
  enableB := hs.enableB

/-- A part reset disables both channels and leaves the station UNCONFIGURED (R106). -/
theorem State.afterReset_wheelSafe (pending : List Instr) (timebase : TimeStamp) (cause : ResetCause) (n : StationNumber) :
    (State.afterReset pending timebase cause n).WheelSafe where
  chA := WheelChannel.legal_of_rest rfl rfl rfl rfl (Nat.zero_le _)
  chB := WheelChannel.legal_of_rest rfl rfl rfl rfl (Nat.zero_le _)
  axle := rfl
  enableA := by simp [State.afterReset, WheelUnit.afterReset, WheelChannel.afterReset, Supervisor.afterReset]
  enableB := by simp [State.afterReset, WheelUnit.afterReset, WheelChannel.afterReset, Supervisor.afterReset]

theorem State.WheelSafe.acceptMeasure (hs : s.WheelSafe) (r : MeasureRecord) : (s.acceptMeasure r).WheelSafe := by
  refine hs.of_frame (hmode := ?_)
  rw [State.acceptMeasure_eq]
  split <;> simp [State.measureNoted]

end

/-! ## Every command -/

section
variable {s : State} (hs : s.WheelSafe)
include hs

/-- A frame of a motor station touches no wheel; a clash takes a configured station to SAFE (R81, R148). -/
theorem execMotorFrame_wheelsKept {h : FrameHeader} {c : Instr}
    (hc : (∃ p, c = .statusFrame h p) ∨ (∃ p, c = .slipAlertFrame h p) ∨ ∃ p, c = .faultFrame h p) :
    Keeps State.WheelSafe (exec c s) :=
  execMotorFrame_keeps hs hs.of_frame (hs.of_frame (hmode := s.endReception.classA_unconfigured_iff _)) hs.of_frame
    (fun _ _ _ => hs.of_frame) (fun _ _ _ => hs.of_frame) (fun _ _ _ => hs.of_frame) hc

/-- Every command keeps the tooth wheels legal: SETUP, the send of a STATE, the edges and the stops change them, and no other
does. -/
theorem exec_wheelsKept (i : Instr) : Keeps State.WheelSafe (exec i s) := by
  cases i with
  | partReset powerOn stn0 stn1 stn2 => exact .next (State.afterReset_wheelSafe ..)
  | exchangeStart => exact execExchangeStart_keeps hs (fun _ => hs.of_frame) hs.sendState
  | shortExchange wholeBytes => exact .guarded hs fun _ => hs.of_frame
  | checkByteFail => exact .guarded hs fun _ => hs.of_frame
  | unknownRecordKind code => exact .guarded hs fun _ => hs.of_frame
  | setup r =>
    have hended : s.endExchange.WheelSafe := hs.of_frame
    exact execSetup_keeps hs (fun _ _ => hs.of_frame) fun _ _ _ => hended.acceptSetup _
  | measure r =>
    have hended : s.endExchange.WheelSafe := hs.of_frame
    exact execMeasure_keeps hs hs.of_frame fun _ => hended.acceptMeasure r
  | takeNotice => exact .guarded hs fun _ => hs.of_frame
  | readPeer station => exact execReadPeer_keeps hs (fun _ => hs.of_frame) hs.of_frame
  | safeRequest =>
    exact execSafeRequest_keeps hs hs.of_frame (hs.of_frame (hmode := s.endExchange.classA_unconfigured_iff _))
  | resume =>
    exact execResume_keeps hs (fun _ => hs.of_frame) fun hmode =>
      hs.of_frame (hmode := iff_of_false (by simp [State.resumeJoin]) (by simp [hmode]))
  | linkResetRequest => exact execLinkResetRequest_keeps hs (fun _ => hs.of_frame) fun _ _ _ => hs.of_frame rfl rfl Iff.rfl
  | nop => exact .guarded hs fun _ => hs.of_frame
  | windowStart => exact .guarded hs fun _ => hs.of_frame
  | claimWon => exact execClaimWon_keeps hs fun _ _ _ _ => hs.of_frame
  | claimLost slot => exact execClaimLost_keeps hs fun _ _ => hs.of_frame rfl rfl Iff.rfl
  | frameStart => exact .guarded hs fun _ => hs.of_frame
  | busFreeTime => exact .guarded hs fun _ => hs.of_frame
  | demandFrame h p => exact .guarded hs fun _ => hs.of_frame
  | statusFrame h p => exact execMotorFrame_wheelsKept hs (.inl ⟨p, rfl⟩)
  | slipAlertFrame h p => exact execMotorFrame_wheelsKept hs (.inr (.inl ⟨p, rfl⟩))
  | faultFrame h p => exact execMotorFrame_wheelsKept hs (.inr (.inr ⟨p, rfl⟩))
  | receiveError cause => exact .guarded hs fun _ => hs.of_frame
  | frameSent =>
    refine execFrameSent_keeps hs fun f _ _ => hs.of_frame (hmode := ?_)
    rw [State.move_ssv]
    exact State.reportSent_unconfigured_iff _ f
  | echoCheckFailed =>
    exact execEchoCheckFailed_keeps hs (fun _ _ _ => hs.of_frame) fun f _ _ =>
      hs.of_frame (hmode := s.dropFrame_unconfigured_iff f)
  | resetDriveBegin => exact .guarded hs fun _ => hs.of_frame
  | linkResetSeen => exact execLinkResetSeen_keeps hs (hs.of_frame (hmode := s.ssv.linkReset_unconfigured_iff))
  | resetDriveRelease => exact .guarded hs fun _ => hs.of_frame
  | resettingReleased => exact .guarded hs fun _ => hs.of_frame
  | publishTimerExpiry => exact .guarded hs fun _ => hs.of_frame
  | demandTimerExpiry => exact .guarded hs fun _ => hs.of_frame
  | silenceTimerExpiry peer => exact .guarded hs fun _ => hs.of_frame
  | measureTimerExpiry => exact .guarded hs fun _ => hs.of_frame (hmode := State.measureExpired_unconfigured_iff _)
  | computationCompletion => exact execComputationCompletion_keeps hs fun _ _ _ => hs.of_frame
  | toothEdge ch time => exact .guarded hs fun hon => hs.wheelEdge hon time
  | stopTimerExpiry ch => exact .guarded hs fun _ => hs.setSpeed (hs.channel ch).stop rfl
  | slipSample => exact .guarded hs fun _ => hs.of_frame
  | settleTimerExpiry => exact .guarded hs fun _ => hs.of_frame
  | gripRecoveryExpiry => exact .guarded hs fun _ => hs.of_frame
  | capRecoveryExpiry => exact .guarded hs fun _ => hs.of_frame
  | interimTimerExpiry => exact execInterimTimerExpiry_keeps hs hs.of_frame
  | millisecondTick => exact .next hs.of_frame

end

/-- Settles O55: the queue of commands is no item of the wheels, and every command keeps them legal. -/
theorem wheelsStaySafe : Obligations.WheelsStaySafe := by
  unfold Obligations.WheelsStaySafe
  intro s t hs hstep
  exact step_keeps (fun _ => hs.of_frame) (fun i _ hu => exec_wheelsKept hu i) hstep

end Sys2Proof.Machine
end

section
/-! PROOFS. The reference speed of a sample: its candidates among the peer entries, and the speed it takes from them (R124,
R125). -/

namespace Sys2Proof.Machine

/-! ## Candidates and speed, over a list of entries -/

section
variable {es : List PeerEntry} {e : PeerEntry} {sense : Sense} {v : Nat}

/-- A sharing entry is a candidate with its slip flag clear, or where every sharing entry's is set (R124). -/
theorem mem_candidates_iff :
    e ∈ candidates es ↔
      (e ∈ es ∧ e.takesPart = true) ∧ (e.slipFlag = false ∨ ∀ k ∈ es, k.takesPart = true → k.slipFlag = true) := by
  unfold candidates
  extract_lets sharing first
  have hfirst : e ∈ first ↔ (e ∈ es ∧ e.takesPart = true) ∧ e.slipFlag = false := by
    simp only [first, sharing, List.mem_filter, Bool.not_eq_true']
  have hnone : first = [] ↔ ∀ k ∈ es, k.takesPart = true → k.slipFlag = true := by
    simp only [first, sharing, List.filter_eq_nil_iff, List.mem_filter, Bool.not_eq_true', Bool.not_eq_false, and_imp]
  split
  · rename_i hall
    rw [List.mem_filter, and_iff_left (Or.inr (hnone.mp hall))]
  · rename_i hsome
    rw [hfirst, or_iff_left (mt hnone.mpr hsome)]

theorem candidates_eq_nil_iff : candidates es = [] ↔ ∀ e ∈ es, e.takesPart = false := by
  unfold candidates
  extract_lets sharing first
  have hsharing : sharing = [] ↔ ∀ e ∈ es, e.takesPart = false := by simp [sharing, List.filter_eq_nil_iff]
  split
  · exact hsharing
  · rename_i hsome
    refine iff_of_false hsome fun hall => hsome ?_
    simp [first, hsharing.mpr hall]

theorem referenceSpeed_eq_none_iff : referenceSpeed sense es = none ↔ ∀ e ∈ es, e.takesPart = false := by
  rw [← candidates_eq_nil_iff, referenceSpeed]
  split <;> simp [List.max?_eq_none_iff, List.min?_eq_none_iff]

/-- A reference speed is the speed of a candidate (R125). -/
theorem referenceSpeed_candidate (h : referenceSpeed sense es = some v) : ∃ e ∈ candidates es, e.axleSpeed = v := by
  rw [← List.mem_map]
  unfold referenceSpeed at h
  extract_lets speeds at h
  split at h
  · exact List.max?_mem h
  · exact List.min?_mem h

theorem referenceSpeed_greatest (h : referenceSpeed .retarding es = some v) (he : e ∈ candidates es) : e.axleSpeed ≤ v :=
  (List.max?_eq_some_iff.mp h).2 _ (List.mem_map_of_mem he)

theorem referenceSpeed_least (hsense : sense ≠ .retarding) (h : referenceSpeed sense es = some v) (he : e ∈ candidates es) :
    v ≤ e.axleSpeed :=
  (List.min?_eq_some_iff.mp ((if_neg hsense).symm.trans h)).2 _ (List.mem_map_of_mem he)

end

/-! ## The peer entries of a sample -/

/-- A peer whose entry is LIVE with last health SHARING (R124). -/
def State.SharingPeer (s : State) (n : StationNumber) : Prop :=
  n ≠ 0 ∧ n ≠ s.ssv.ownNumber ∧ (s.ptb.entry n).state = .live ∧ (s.ptb.entry n).health = some .sharing

section
variable {s : State}

theorem State.sharingPeer_iff {n : StationNumber} :
    s.SharingPeer n ↔ n ∈ peerNumbers s.ssv.ownNumber ∧ (s.ptb.entry n).takesPart = true := by
  rw [mem_peerNumbers, PeerEntry.takesPart_iff, and_assoc]
  rfl

/-- What holds of every sharing entry a sample reads holds of every sharing peer's entry. -/
theorem State.forall_sharing_iff {P : PeerEntry → Prop} :
    (∀ e ∈ s.peerEntries, e.takesPart = true → P e) ↔ ∀ n, s.SharingPeer n → P (s.ptb.entry n) := by
  simp [State.peerEntries, State.sharingPeer_iff]

theorem State.mem_candidates_iff {e : PeerEntry} :
    e ∈ candidates s.peerEntries ↔
      ∃ n, (s.SharingPeer n ∧
        ((s.ptb.entry n).slipFlag = false ∨ ∀ k, s.SharingPeer k → (s.ptb.entry k).slipFlag = true)) ∧ s.ptb.entry n = e := by
  rw [Machine.mem_candidates_iff, State.forall_sharing_iff (P := (·.slipFlag = true)), State.peerEntries, List.mem_map]
  constructor
  · rintro ⟨⟨⟨n, hn, rfl⟩, hpart⟩, hflag⟩
    exact ⟨n, ⟨State.sharingPeer_iff.mpr ⟨hn, hpart⟩, hflag⟩, rfl⟩
  · rintro ⟨n, ⟨hsharing, hflag⟩, rfl⟩
    obtain ⟨hn, hpart⟩ := State.sharingPeer_iff.mp hsharing
    exact ⟨⟨⟨n, hn, rfl⟩, hpart⟩, hflag⟩

theorem State.reference_eq_none_iff : s.reference = none ↔ ∀ n, ¬s.SharingPeer n := by
  have hforall := State.forall_sharing_iff (s := s) (P := fun _ => False)
  simpa [State.reference, referenceSpeed_eq_none_iff] using hforall

end

/-- Settles O47, from the candidates among the peer entries and the order of their speeds. -/
theorem referenceSpeedOfSample : Obligations.ReferenceSpeed := by
  unfold Obligations.ReferenceSpeed
  refine fun s => ⟨State.reference_eq_none_iff, fun v hv => ⟨?_, fun n hn => ?_⟩⟩
  · obtain ⟨e, he, hspeed⟩ := referenceSpeed_candidate hv
    obtain ⟨n, hn, rfl⟩ := State.mem_candidates_iff.mp he
    exact ⟨n, hn, hspeed⟩
  · have hmem : s.ptb.entry n ∈ candidates s.peerEntries := State.mem_candidates_iff.mpr ⟨n, hn, rfl⟩
    refine ⟨fun hsense => ?_, fun hsense => referenceSpeed_least hsense hv hmem⟩
    rw [State.reference, hsense] at hv
    exact referenceSpeed_greatest hv hmem

end Sys2Proof.Machine
end

section
/-! PROOFS. A sample: what its first half leaves of the monitor, what blocks it, and what it does once judged (R122, R123, R126
to R132). -/

namespace Sys2Proof.Machine

/-! ## The first half: timer, sense and filter (R122, R123, R126) -/

section
variable (m : Monitor) (sense : Sense) (settleTime : Nat)

/-- A change of sense begins SETTLING, which a settle time of 0 ends in the same event: the slip cap lifted, the grip factor
alone decides where to (R121, R123). -/
theorem Monitor.takeSense_eq :
    m.takeSense sense settleTime =
      if sense = m.lastSense then m
      else { m with
        baseline := 0, confirmCount := 0, slipCap := none, capTimer := .stopped, lastSense := sense
        state := if settleTime = 0 then (if m.grip = 16 then .watching else .recovering) else .settling
        settleTimer := if settleTime = 0 then .stopped else .running settleTime } := by
  unfold Monitor.takeSense
  split
  · rfl
  · by_cases hzero : settleTime = 0 <;>
      simp [Monitor.changeSense, Monitor.startSettling, Monitor.settleExpiry, Monitor.recovered_iff, hzero]

/-- The sense leaves the sample timer to the sample (R122, R123). -/
theorem Monitor.takeSense_restart (timer : Timer) :
    ({ m with sampleTimer := timer } : Monitor).takeSense sense settleTime =
      { m.takeSense sense settleTime with sampleTimer := timer } := by
  rw [takeSense_eq, takeSense_eq]
  split <;> rfl

@[simp] theorem Monitor.takeSense_accel : (m.takeSense sense settleTime).accel = m.accel := by
  rw [takeSense_eq]
  split <;> rfl

@[simp] theorem Monitor.takeSense_prevRef : (m.takeSense sense settleTime).prevRef = m.prevRef := by
  rw [takeSense_eq]
  split <;> rfl

@[simp] theorem Monitor.takeSense_grip : (m.takeSense sense settleTime).grip = m.grip := by
  rw [takeSense_eq]
  split <;> rfl

@[simp] theorem Monitor.takeSense_slipEvents : (m.takeSense sense settleTime).slipEvents = m.slipEvents := by
  rw [takeSense_eq]
  split <;> rfl

end

/-- The filtered acceleration after a sample, from the one before it, the previous reference and the reference (R126). -/
def filteredAccel (accel : Int) (prevRef ref : Option Nat) (interval : Nat) : Int :=
  match ref, prevRef with
  | some v, some prev =>
    let a := (((v : Int) - prev) * 1000).tdiv interval
    max (-20000) (min (accel + (a - accel).tdiv 8) 20000)
  | _, _ => accel

theorem filteredAccel_some (accel : Int) (prevRef : Option Nat) (v interval : Nat) :
    filteredAccel accel prevRef (some v) interval = match prevRef with
      | some prev =>
        let a := (((v : Int) - prev) * 1000).tdiv interval
        max (-20000) (min (accel + (a - accel).tdiv 8) 20000)
      | none => accel := by
  cases prevRef <;> rfl

theorem Monitor.filter_eq (m : Monitor) (ref : Option Nat) (interval : Nat) :
    m.filter ref interval = { m with prevRef := ref, accel := filteredAccel m.accel m.prevRef ref interval } := by
  unfold Monitor.filter
  cases ref with
  | none => rfl
  | some v => cases hprev : m.prevRef <;> rfl

/-- The monitor as the sense of a sample leaves it (R123). -/
def State.sensed (s : State) : Monitor := s.slm.takeSense s.spe.inForce.sense s.config.settleTime

theorem State.senseAndFilter_eq (s : State) :
    s.senseAndFilter =
      { s.sensed with
        sampleTimer := .running s.config.slipSampleInterval
        prevRef := s.reference
        accel := filteredAccel s.slm.accel s.slm.prevRef s.reference s.config.slipSampleInterval } := by
  rw [State.senseAndFilter, Monitor.takeSense_restart, Monitor.filter_eq]
  simp only [Monitor.takeSense_accel, Monitor.takeSense_prevRef]
  rfl

/-! ## Blocking (R127, R128) -/

theorem BlockingMode.onRamp_iff (b : BlockingMode) : b.onRamp = true ↔ b = .ramp ∨ b = .rampAndLaunch := by
  simp [BlockingMode.onRamp]

theorem BlockingMode.onLaunch_iff (b : BlockingMode) : b.onLaunch = true ↔ b = .launch ∨ b = .rampAndLaunch := by
  simp [BlockingMode.onLaunch]

section
variable {m : Monitor} {cfg : Setup} {sense : Sense} {limited : Bool}

theorem Monitor.blocked_some_iff {v : Nat} :
    m.blocked cfg sense (some v) limited = true ↔
      m.state = .settling ∨ sense = .none ∨
        ((cfg.blockingMode = .ramp ∨ cfg.blockingMode = .rampAndLaunch) ∧ limited = true) ∨
        ((cfg.blockingMode = .launch ∨ cfg.blockingMode = .rampAndLaunch) ∧ v < cfg.launchSpeed) := by
  simp only [Monitor.blocked, Bool.or_eq_true, Bool.and_eq_true, beq_iff_eq, decide_eq_true_eq, BlockingMode.onRamp_iff,
    BlockingMode.onLaunch_iff, or_assoc]

theorem Monitor.blocked_iff {ref : Option Nat} :
    m.blocked cfg sense ref limited = true ↔
      m.state = .settling ∨ ref = none ∨ sense = .none ∨
        ((cfg.blockingMode = .ramp ∨ cfg.blockingMode = .rampAndLaunch) ∧ limited = true) ∨
        ((cfg.blockingMode = .launch ∨ cfg.blockingMode = .rampAndLaunch) ∧ ∃ v, ref = some v ∧ v < cfg.launchSpeed) := by
  cases ref with
  | none => exact iff_of_true rfl (.inr (.inl rfl))
  | some v => simp [Monitor.blocked_some_iff]

end

section
variable {s : State}

theorem exec_slipSample {ms : Nat} (hrun : s.slm.sampleTimer = .running ms) (hon : s.slm.state ≠ .off) :
    exec .slipSample s = .next s.sample :=
  if_pos (by simp [hrun, hon, Timer.isRunning])

theorem State.sample_blocked
    (h : s.senseAndFilter.blocked s.config s.spe.inForce.sense s.reference s.cms.rateLimited = true) :
    s.sample = { s with slm := s.senseAndFilter.block } := by
  unfold State.sample
  cases href : s.reference with
  | none => rfl
  | some v => exact if_pos (href ▸ h)

/-- A sample that no condition of R127 blocks is judged by its slip (R129). -/
theorem State.sample_judged {v : Nat} (href : s.reference = some v) (hsettled : s.sensed.state ≠ .settling)
    (hsense : s.spe.inForce.sense ≠ .none)
    (hramp : s.config.blockingMode = .ramp ∨ s.config.blockingMode = .rampAndLaunch → s.cms.rateLimited = false)
    (hlaunch : s.config.blockingMode = .launch ∨ s.config.blockingMode = .rampAndLaunch → s.config.launchSpeed ≤ v) :
    s.sample = s.judge s.senseAndFilter (slipOf s.spe.inForce.sense s.wcu.axleSpeed v) := by
  have hfree : ¬s.senseAndFilter.blocked s.config s.spe.inForce.sense (some v) s.cms.rateLimited = true := by
    rw [Monitor.blocked_some_iff, s.senseAndFilter_eq]
    rintro (h | h | ⟨hmode, hlimited⟩ | ⟨hmode, hslow⟩)
    · exact hsettled h
    · exact hsense h
    · simp [hramp hmode] at hlimited
    · exact (hlaunch hmode).not_gt hslow
  simp only [State.sample, href, if_neg hfree]

end

/-- Settles O48: a condition of R127 blocks the monitor that the first half of the sample leaves. -/
theorem blockedSample : Obligations.BlockedSample := by
  unfold Obligations.BlockedSample
  intro ms s hrun hon sense sensed accel hblocked
  have hsensed : sensed = s.sensed := (Monitor.takeSense_eq ..).symm
  have haccel : accel = filteredAccel s.slm.accel s.slm.prevRef s.reference s.config.slipSampleInterval := rfl
  rw [hsensed] at hblocked
  rw [exec_slipSample hrun hon, State.sample_blocked, s.senseAndFilter_eq, hsensed, haccel]
  · rfl
  · rw [s.senseAndFilter_eq]
    exact Monitor.blocked_iff.mpr hblocked

/-! ## Slip and its judgement (R129 to R132) -/

theorem slipLimit_eq (threshold : Nat) (grip : GripMode) :
    slipLimit threshold grip = match grip with
      | .normal => threshold
      | .lowGrip => max 10 (threshold / 2) := by
  cases grip <;> rfl

theorem slipOf_eq (sense : Sense) (own ref : Nat) :
    slipOf sense own ref = min 1000 (1000 * (if sense = .retarding then ref - own else own - ref) / max ref 500) :=
  Nat.min_comm ..

theorem exceeds_iff {slip baseline limit : Nat} : exceeds slip baseline limit = true ↔ baseline + limit < slip := by
  simp only [exceeds, decide_eq_true_eq]
  omega

section
variable {s : State} {m : Monitor} {slip : Nat}

theorem State.judge_quiet (h : slip ≤ m.baseline + slipLimit s.config.slipThreshold s.spe.inForce.gripMode) :
    s.judge m slip = { s with slm := m.quietSlip slip } :=
  if_neg (by rw [exceeds_iff]; exact h.not_gt)

theorem State.judge_counted (h : m.baseline + slipLimit s.config.slipThreshold s.spe.inForce.gripMode < slip)
    (hshort : m.confirmCount + 1 < s.config.confirmNumber) : s.judge m slip = { s with slm := m.countSlip } := by
  rw [State.judge, if_pos (exceeds_iff.mpr h), if_neg hshort.not_ge]

theorem State.judge_confirmed (h : m.baseline + slipLimit s.config.slipThreshold s.spe.inForce.gripMode < slip)
    (hfull : s.config.confirmNumber ≤ m.confirmCount + 1) : s.judge m slip = s.slipEvent m.countSlip slip := by
  rw [State.judge, if_pos (exceeds_iff.mpr h), if_pos hfull]

end

/-- Settles O49: the judgement of a sample that nothing blocks, short of a slip event. -/
theorem judgedSample : Obligations.JudgedSample := by
  unfold Obligations.JudgedSample
  intro ms v s hrun hon href sense sensed filtered hsettled hsense hramp hlaunch slip threshold
  have hsensed : s.sensed = sensed := Monitor.takeSense_eq ..
  have haccel : filteredAccel s.slm.accel s.slm.prevRef (some v) s.config.slipSampleInterval = filtered.accel :=
    filteredAccel_some ..
  have hfiltered : s.senseAndFilter = filtered := by rw [s.senseAndFilter_eq, hsensed, href, haccel]
  have hslip : slipOf sense s.wcu.axleSpeed v = slip := slipOf_eq ..
  have hlimit : slipLimit s.config.slipThreshold s.spe.inForce.gripMode = threshold := slipLimit_eq ..
  rw [exec_slipSample hrun hon, State.sample_judged href (hsensed ▸ hsettled) hsense hramp hlaunch, hfiltered, hslip]
  refine ⟨fun hquiet => ?_, fun hover hshort => ?_⟩
  · rw [State.judge_quiet (m := filtered) (hlimit ▸ hquiet)]
    rfl
  · rw [State.judge_counted (m := filtered) (hlimit ▸ hover) hshort]
    rfl

end Sys2Proof.Machine
end

section
/-! PROOFS. The slip event of a confirming sample (R133 to R136, R14, R38). -/

namespace Sys2Proof.Machine

/-! ## The Command Stage at a slip event (R38) -/

theorem clampMagnitude_eq (x : Int) (cap : Nat) : clampMagnitude x cap = max (-(cap : Int)) (min x cap) := by
  unfold clampMagnitude withSignOf
  split <;> omega

theorem heldAfterSlipCap_eq (c : CommandStage) (cap : SlipCap) :
    heldAfterSlipCap c cap =
      if c.sense = cap.sense then max (-(cap.magnitude : Int)) (min c.held cap.magnitude) else c.held := by
  rw [heldAfterSlipCap, clampMagnitude_eq]
  simp only [eq_comm]

/-! ## The figures of the SLIP ALERT (R14, R135) -/

theorem Caps.ofSense_of_sensed {sense : Sense} (h : sense ≠ .none) (c : Caps) :
    c.ofSense sense = if sense = .propulsive then c.prop else c.ret := by
  cases sense with
  | none => exact absurd rfl h
  | propulsive => rfl
  | retarding => rfl

theorem SplitEngine.lastLoad_eq (e : SplitEngine) :
    (e.lastLoad : Int) = match e.snapshot with | some sn => sn.measure.load | none => 0 := by
  unfold SplitEngine.lastLoad
  cases e.snapshot <;> rfl

/-- The weight of the SLIP ALERT is the effective load of R13 times the lowered grip (R14). -/
theorem State.alertWeight_eq (s : State) (m : Monitor) :
    s.alertWeight m =
      (effectiveLoad s.config.loadTransfer m.accel s.spe.inForce.direction s.spe.lastLoad).toNat * m.grip / 16 := rfl

/-! ## The monitor at a slip event (R133, R134, R136) -/

/-- A slip event sets the state and the count anew, so the count that led to it leaves no trace (R136). -/
theorem State.slipEvent_countSlip (s : State) (m : Monitor) (slip : Nat) :
    s.slipEvent m.countSlip slip = s.slipEvent m slip := rfl

/-- Settles O50: the judgement of a sample that nothing blocks, at the confirm number. -/
theorem slipEvent : Obligations.SlipEvent := by
  unfold Obligations.SlipEvent
  intro ms v s hrun hon href sense sensed hsettled hsense hramp hlaunch slip threshold hover hfull accel grip magnitude
    capInForce shift staticLoad load held slm cms alert
  have hsensed : s.sensed = sensed := Monitor.takeSense_eq ..
  have haccel : filteredAccel s.slm.accel s.slm.prevRef (some v) s.config.slipSampleInterval = accel :=
    filteredAccel_some ..
  have hfiltered : s.senseAndFilter =
      { sensed with sampleTimer := .running s.config.slipSampleInterval, prevRef := some v, accel := accel } := by
    rw [s.senseAndFilter_eq, hsensed, href, haccel]
  have hslip : slipOf sense s.wcu.axleSpeed v = slip := slipOf_eq ..
  have hlimit : slipLimit s.config.slipThreshold s.spe.inForce.gripMode = threshold := slipLimit_eq ..
  have hgrip : sensed.grip = s.slm.grip := hsensed ▸ Monitor.takeSense_grip ..
  have hevents : sensed.slipEvents = s.slm.slipEvents := hsensed ▸ Monitor.takeSense_slipEvents ..
  have hslm : s.senseAndFilter.slipEvent s.config sense s.cms.held = slm := by
    rw [hfiltered]
    simp only [Monitor.slipEvent, hgrip, hevents]
    rfl
  have hcms : s.commandAfterSlip = cms := by
    simp only [State.commandAfterSlip, CommandStage.slipCapSet, heldAfterSlipCap_eq]
    rfl
  have halert : s.slipAlert slm slip = alert := by
    have hstatic : (s.spe.lastLoad : Int) = staticLoad := SplitEngine.lastLoad_eq _
    have hload : effectiveLoad s.config.loadTransfer accel s.spe.inForce.direction s.spe.lastLoad = load := by
      rw [effectiveLoad_eq, hstatic]
    have hcap : s.cms.caps.ofSense sense = capInForce := Caps.ofSense_of_sensed hsense _
    have hweight : s.alertWeight slm = load.toNat * grip / 16 := by
      rw [State.alertWeight_eq, ← hload]
    rw [State.slipAlert, hweight, hcap]
    rfl
  rw [exec_slipSample hrun hon, State.sample_judged href (hsensed ▸ hsettled) hsense hramp hlaunch, hslip,
    State.judge_confirmed (by rw [hfiltered, hlimit]; exact hover) (by rw [hfiltered]; exact hfull),
    State.slipEvent_countSlip, State.slipEvent, hslm, hcms, halert]

end Sys2Proof.Machine
end

section
/-! PROOFS. The settle timer and the two recovery timers of the Slip Monitor (R121, R137 to R139). -/

namespace Sys2Proof.Machine

section
variable {s : State} {ms : Nat}

theorem exec_settleTimerExpiry (hrun : s.slm.settleTimer = .running ms) :
    exec .settleTimerExpiry s = .next { s with slm := s.slm.settleExpiry } :=
  if_pos (by simp [hrun, Timer.isRunning])

theorem exec_gripRecoveryExpiry (hrun : s.slm.gripTimer = .running ms) :
    exec .gripRecoveryExpiry s = .next (s.afterRecovery (s.slm.gripStep s.config.recoveryInterval)) :=
  if_pos (by simp [hrun, Timer.isRunning])

theorem exec_capRecoveryExpiry (hrun : s.slm.capTimer = .running ms) :
    exec .capRecoveryExpiry s =
      .next (s.afterRecovery (s.slm.capStep s.config.recoveryStep s.config.recoveryInterval s.cms.caps)) :=
  if_pos (by simp [hrun, Timer.isRunning])

end

/-! ## The steps of a recovery -/

section
variable (m : Monitor)

theorem Monitor.settleExpiry_eq :
    m.settleExpiry =
      { m with
        settleTimer := .stopped
        state := if m.state ≠ .settling then m.state
          else if m.grip = 16 ∧ m.slipCap = none then .watching else .recovering } := by
  simp only [Monitor.settleExpiry, Monitor.recovered_iff, ite_not]

theorem Monitor.gripStep_eq (interval : Nat) :
    m.gripStep interval =
      { m with grip := min 16 (m.grip + 1), gripTimer := if m.grip < 15 then .running interval else .stopped } := by
  have hlast : Config.fullGrip ≤ m.grip + 1 ↔ ¬m.grip < 15 := by
    simp only [Config.fullGrip]
    omega
  simp only [Monitor.gripStep, hlast, ite_not]
  rfl

section
variable {m} {c : SlipCap} (hc : m.slipCap = some c) (step interval : Nat) (caps : Caps)
include hc

theorem Monitor.capStep_lifted {step : Nat} {caps : Caps} (h : caps.ofSense c.sense ≤ c.magnitude + step) :
    m.capStep step interval caps = { m with slipCap := none, capTimer := .stopped } := by
  simp only [Monitor.capStep, hc, if_pos h]

theorem Monitor.capStep_raised {step : Nat} {caps : Caps} (h : c.magnitude + step < caps.ofSense c.sense) :
    m.capStep step interval caps =
      { m with slipCap := some ⟨c.magnitude + step, c.sense⟩, capTimer := .running interval } := by
  simp only [Monitor.capStep, hc, if_neg h.not_ge]

end

end

/-! ## The end of a recovery (R139) -/

section
variable {s : State} {m : Monitor}

theorem Monitor.endsRecovery_iff : m.endsRecovery = true ↔ m.state = .recovering ∧ m.grip = 16 ∧ m.slipCap = none := by
  rw [Monitor.endsRecovery, Bool.and_eq_true, beq_iff_eq, Monitor.recovered_iff]

theorem State.afterRecovery_ended (hstate : m.state = .recovering) (hgrip : m.grip = 16) (hcap : m.slipCap = none) :
    s.afterRecovery m =
      ({ s with slm := { m with state := .watching, confirmCount := 0 } } : State).notify .slipRecovered none none := by
  have hends : m.endsRecovery = true := Monitor.endsRecovery_iff.mpr ⟨hstate, hgrip, hcap⟩
  simp only [State.afterRecovery, Monitor.finishRecovery, hends, if_true]

theorem State.afterRecovery_going (h : ¬(m.state = .recovering ∧ m.grip = 16 ∧ m.slipCap = none)) :
    s.afterRecovery m = { s with slm := m } := by
  have hgoing : ¬m.endsRecovery = true := mt Monitor.endsRecovery_iff.mp h
  simp only [State.afterRecovery, Monitor.finishRecovery, if_neg hgoing]

end

/-- Settles O51: each expiry by the step it takes, and whether that step completes the recovery. -/
theorem settlingAndRecovery : Obligations.SettlingAndRecovery := by
  unfold Obligations.SettlingAndRecovery
  refine ⟨fun ms s hrun => ?_, fun ms s hrun => ?_, fun ms m sense s hrun hcap => ?_⟩
  · rw [exec_settleTimerExpiry hrun, Monitor.settleExpiry_eq]
  · intro raised
    have hstep : s.slm.gripStep s.config.recoveryInterval = raised.slm := Monitor.gripStep_eq ..
    have hfull : raised.slm.grip = 16 ↔ 15 ≤ s.slm.grip := by
      simp only [raised]
      omega
    rw [exec_gripRecoveryExpiry hrun, hstep]
    refine ⟨fun hstate hgrip hnone => ?_, fun hgoing => congrArg _ (State.afterRecovery_going ?_)⟩
    · exact congrArg _ (State.afterRecovery_ended hstate (hfull.mpr hgrip) hnone)
    · rintro ⟨hstate, hgrip, hnone⟩
      exact hgoing.elim (· hstate) (·.elim (hfull.mp hgrip).not_gt (· hnone))
  · intro capInForce lifted
    have hforce : s.cms.caps.ofSense sense = capInForce := by
      simp only [capInForce]
      cases sense <;> rfl
    rw [exec_capRecoveryExpiry hrun]
    refine ⟨fun hbelow => ?_, fun hreached hstate hgrip => ?_, fun hreached hgoing => ?_⟩
    · rw [Monitor.capStep_raised hcap _ (hforce.symm ▸ hbelow)]
      exact congrArg _ (State.afterRecovery_going fun ⟨_, _, hnone⟩ => by cases hnone)
    · rw [Monitor.capStep_lifted hcap _ (hforce.symm ▸ hreached)]
      exact congrArg _ (State.afterRecovery_ended hstate hgrip rfl)
    · rw [Monitor.capStep_lifted hcap _ (hforce.symm ▸ hreached)]
      exact congrArg _ (State.afterRecovery_going fun ⟨hstate, hgrip, _⟩ => hgoing.elim (· hstate) (· hgrip))

end Sys2Proof.Machine
end

section
/-! PROOFS. Every command ends in a next state and leaves the commands that wait behind it alone (O2). -/

namespace Sys2Proof.Machine

/-- The outcome of a command met in this state is a next state, with the commands that wait as they were (log 1, log 20). -/
def Completes (s : State) (o : Host.Outcome State Fault Refusal) : Prop := ∃ t, o = .next t ∧ t.pending = s.pending

section
variable {s : State}

theorem Completes.next {t : State} (h : t.pending = s.pending := by simp) : Completes s (.next t) := ⟨t, rfl, h⟩

theorem Completes.ite {p : Prop} [Decidable p] {a b : Host.Outcome State Fault Refusal} (ha : Completes s a)
    (hb : Completes s b) : Completes s (if p then a else b) := by
  split
  · exact ha
  · exact hb

theorem execExchangeStart_completes : Completes s (execExchangeStart s) := by
  refine .ite .next ?_
  split
  · exact .next
  · exact .next

theorem execSetup_completes (r : SetupRecord) : Completes s (execSetup r s) := by
  refine .ite (.ite .next (.ite .next ?_)) .next
  split
  · exact .next
  · exact .next

theorem execReadPeer_completes (station : Byte) : Completes s (execReadPeer station s) := by
  refine .ite ?_ .next
  split
  · exact .next
  · exact .next

theorem execClaimWon_completes : Completes s (execClaimWon s) := by
  unfold execClaimWon
  split
  · exact .ite .next .next
  · exact .next

theorem execClaimLost_completes (slot : Fin 16) : Completes s (execClaimLost slot s) := by
  unfold execClaimLost
  split
  · exact .ite .next .next
  · exact .next

theorem execFrameSent_completes : Completes s (execFrameSent s) := by
  unfold execFrameSent
  split
  · exact .ite .next .next
  · exact .next

theorem execEchoCheckFailed_completes : Completes s (execEchoCheckFailed s) := by
  unfold execEchoCheckFailed
  split
  · exact .ite (.ite .next .next) .next
  · exact .next

theorem execComputationCompletion_completes : Completes s (execComputationCompletion s) := by
  unfold execComputationCompletion
  split
  · exact .next
  · exact .next
  · exact .next

theorem execInterimTimerExpiry_completes : Completes s (execInterimTimerExpiry s) := by
  unfold execInterimTimerExpiry
  split
  · exact .next
  · exact .next
  · exact .next

end

/-- Every command, by the outcomes its conditions choose between. -/
theorem exec_completes (i : Instr) (s : State) : Completes s (exec i s) := by
  cases i with
  | partReset powerOn stn0 stn1 stn2 => exact .next rfl
  | exchangeStart => exact execExchangeStart_completes
  | shortExchange wholeBytes => exact .ite .next .next
  | checkByteFail => exact .ite .next .next
  | unknownRecordKind code => exact .ite .next .next
  | setup r => exact execSetup_completes r
  | measure r => exact .ite (.ite .next .next) .next
  | takeNotice => exact .ite .next .next
  | readPeer station => exact execReadPeer_completes station
  | safeRequest => exact .ite (.ite .next .next) .next
  | resume => exact .ite (.ite .next (.ite .next .next)) .next
  | linkResetRequest => exact .ite (.ite .next (.ite .next .next)) .next
  | nop => exact .ite .next .next
  | windowStart => exact .ite .next .next
  | claimWon => exact execClaimWon_completes
  | claimLost slot => exact execClaimLost_completes slot
  | frameStart => exact .ite .next .next
  | busFreeTime => exact .ite .next .next
  | demandFrame h p => exact .ite .next .next
  | statusFrame h p => exact .ite .next .next
  | slipAlertFrame h p => exact .ite .next .next
  | faultFrame h p => exact .ite .next .next
  | receiveError cause => exact .ite .next .next
  | frameSent => exact execFrameSent_completes
  | echoCheckFailed => exact execEchoCheckFailed_completes
  | resetDriveBegin => exact .ite .next .next
  | linkResetSeen => exact .ite .next .next
  | resetDriveRelease => exact .ite .next .next
  | resettingReleased => exact .ite .next .next
  | publishTimerExpiry => exact .ite .next .next
  | demandTimerExpiry => exact .ite .next .next
  | silenceTimerExpiry peer => exact .ite .next .next
  | measureTimerExpiry => exact .ite .next .next
  | computationCompletion => exact execComputationCompletion_completes
  | toothEdge ch time => exact .ite .next .next
  | stopTimerExpiry ch => exact .ite .next .next
  | slipSample => exact .ite .next .next
  | settleTimerExpiry => exact .ite .next .next
  | gripRecoveryExpiry => exact .ite .next .next
  | capRecoveryExpiry => exact .ite .next .next
  | interimTimerExpiry => exact execInterimTimerExpiry_completes
  | millisecondTick => exact .next

/-- Settles O2: no operation a command is made of touches the queue of commands. -/
theorem everyCommandCompletes : Obligations.EveryCommandCompletes := exec_completes

end Sys2Proof.Machine
end

section
/-! PROOFS. The Station Supervisor stays consistent with its mode (O57): each change of the mode, of the cause and of the join
count, and every command. -/

namespace Sys2Proof.Machine

section
variable {s t : State}

/-- Consistency reads the Station Supervisor and the measure timeout of the configuration. -/
theorem State.SupervisorSafe.of_frame (hs : s.SupervisorSafe) (hssv : t.ssv = s.ssv := by simp)
    (hconfig : t.config = s.config := by simp) : t.SupervisorSafe where
  cause := by rw [hssv]; exact hs.cause
  bar := by rw [hssv]; exact hs.bar
  join := by rw [hssv]; exact hs.join
  announcing := by rw [hssv]; exact hs.announcing
  measureTimer := by rw [hssv, hconfig]; exact hs.measureTimer

/-- A part reset leaves no cause, no clash bar and no join, and the measure timer stopped (R143). -/
theorem State.afterReset_supervisorSafe (pending : List Instr) (timebase : TimeStamp) (cause : ResetCause)
    (n : StationNumber) : (State.afterReset pending timebase cause n).SupervisorSafe where
  cause := iff_of_false (by simp [State.afterReset, Supervisor.afterReset]) fun h => by cases h
  bar h := by cases h
  join := Nat.zero_le _
  announcing h := by cases h
  measureTimer := rfl

/-- A RESUME accepted clears the cause; it is accepted with the clash bar clear only (R152). -/
theorem State.resumeJoin_supervisorSafe (hbar : s.ssv.clashBar = false) : s.resumeJoin.SupervisorSafe where
  cause := by simp [State.resumeJoin]
  bar := by simp [State.resumeJoin, hbar]
  join := by simp [State.resumeJoin]
  announcing := by simp [State.resumeJoin]
  measureTimer := by simp [State.resumeJoin]

theorem joinCountAfter_le {mode : StationMode} {count : Nat} (h : count ≤ 3)
    (hannouncing : mode = .announcing → count ≤ 2) (f : OwnFrame) : joinCountAfter mode count f ≤ 3 := by
  unfold joinCountAfter
  split
  · rename_i hmode
    have hcount := hannouncing hmode
    split <;> omega
  · exact h

end

section
variable {s : State} (hs : s.SupervisorSafe)
include hs

/-! ## What a consistent supervisor holds in each mode -/

theorem State.SupervisorSafe.noCause (hmode : s.ssv.mode ≠ .safe) : s.ssv.faultCause = none := by
  simpa using mt hs.cause.mp hmode

theorem State.SupervisorSafe.noBar (hmode : s.ssv.mode ≠ .safe) : s.ssv.clashBar = false := by
  simpa using mt hs.bar hmode

theorem State.SupervisorSafe.measureTimer_running (hmode : s.ssv.mode ≠ .unconfigured) :
    s.ssv.measureTimer = .running s.config.measureTimeout := by rw [hs.measureTimer, if_neg hmode]

theorem State.SupervisorSafe.configured_of_running (hrun : s.ssv.measureTimer.isRunning = true) :
    s.ssv.mode ≠ .unconfigured := by
  intro hmode
  rw [hs.measureTimer, if_pos hmode] at hrun
  cases hrun

/-! ## Changes of the mode -/

/-- The join count moved within its bound, short of three in ANNOUNCING (R102). -/
theorem State.SupervisorSafe.withJoinCount {n : Nat} (hn : n ≤ 3) (hshort : s.ssv.mode = .announcing → n ≤ 2) :
    { s with ssv := { s.ssv with joinCount := n } : State }.SupervisorSafe :=
  { hs with join := hn, announcing := hshort }

/-- The measure timer restarted in a configured mode (R154). -/
theorem State.SupervisorSafe.restartMeasure (hmode : s.ssv.mode ≠ .unconfigured) :
    { s with ssv := { s.ssv with measureTimer := .running s.config.measureTimeout } : State }.SupervisorSafe :=
  { hs with measureTimer := (if_neg hmode).symm }

/-- SAFE entry records its cause (R149). -/
theorem State.SupervisorSafe.enterSafe (hmode : s.ssv.mode ≠ .unconfigured) (c : FaultCause) :
    (s.enterSafe c).SupervisorSafe where
  cause := by simp [State.enterSafe_ssv, Supervisor.enterSafe]
  bar := by simp [State.enterSafe_ssv, Supervisor.enterSafe]
  join := by simpa [State.enterSafe_ssv, Supervisor.enterSafe] using hs.join
  announcing := by simp [State.enterSafe_ssv, Supervisor.enterSafe]
  measureTimer := by
    simpa [State.enterSafe_ssv, Supervisor.enterSafe] using hs.measureTimer_running hmode

/-- A class A condition in SAFE keeps the first cause, and may set the clash bar (R150, R151). -/
theorem State.SupervisorSafe.classAInSafe (hmode : s.ssv.mode = .safe) (c : FaultCause) :
    (s.classAInSafe c).SupervisorSafe where
  cause := hs.cause
  bar _ := hmode
  join := hs.join
  announcing := hs.announcing
  measureTimer := hs.measureTimer

theorem State.SupervisorSafe.classA (c : FaultCause) : (s.classA c).SupervisorSafe :=
  State.classA_keeps hs (fun hmode _ => hs.enterSafe hmode c) fun hmode => hs.classAInSafe hmode c

/-- The third STATUS of a join makes the mode SHARING, which every other report leaves (R102, R147). -/
theorem State.SupervisorSafe.reportSent (f : OwnFrame) : (s.reportSent f).SupervisorSafe := by
  have hcount : joinCountAfter s.ssv.mode s.ssv.joinCount f ≤ 3 := joinCountAfter_le hs.join hs.announcing f
  unfold State.reportSent
  extract_lets count counted
  split
  · rename_i hthird
    have hout : s.ssv.mode ≠ .safe := by simp [hthird.1]
    exact
      { cause := iff_of_false (by simpa [State.enterSharing, counted] using hs.noCause hout) fun h => by cases h
        bar := fun h => absurd ((hs.noBar hout).symm.trans h) (by decide)
        join := hcount
        announcing := fun h => by cases h
        measureTimer := hs.measureTimer_running (by simp [hthird.1]) }
  · rename_i hshort
    refine hs.withJoinCount hcount fun hmode => ?_
    have hlt : ¬Config.joinFrames ≤ count := fun h => hshort ⟨hmode, h⟩
    exact Nat.le_of_lt_succ (Nat.not_le.mp hlt)

/-- A link reset seen ends a join and clears the clash bar; only SHARING is left by it (R156). -/
theorem State.SupervisorSafe.linkReset : s.linkReset.SupervisorSafe := by
  have hssv : s.linkReset.ssv = s.ssv.linkReset := rfl
  cases hmode : s.ssv.mode with
  | unconfigured => exact hs.of_frame (by rw [hssv, Supervisor.linkReset, hmode])
  | announcing =>
    exact (hs.withJoinCount (Nat.zero_le 3) fun _ => Nat.zero_le 2).of_frame
      (by simp [hssv, Supervisor.linkReset, hmode])
  | sharing =>
    have hout : s.ssv.mode ≠ .safe := by simp [hmode]
    have hleft : s.linkReset.ssv = { s.ssv with mode := .announcing, joinCount := 0 } := by
      rw [hssv, Supervisor.linkReset, hmode]
    exact
      { cause := by simp [hleft, hs.noCause hout]
        bar := by simp [hleft, hs.noBar hout]
        join := by simp [hleft]
        announcing := by simp [hleft]
        measureTimer := by simpa [hleft] using hs.measureTimer_running (by simp [hmode]) }
  | safe =>
    have hcleared : { s with ssv := { s.ssv with clashBar := false } : State }.SupervisorSafe :=
      { hs with bar := fun h => by cases h }
    exact hcleared.of_frame (by simp [hssv, Supervisor.linkReset, hmode])

/-- A second echo failure ends a join, and may be a class A condition (R84, R147). -/
theorem State.SupervisorSafe.dropFrame (f : TransmitFrame) : (s.dropFrame f).SupervisorSafe := by
  have hdropped : (s.frameDropped f).SupervisorSafe :=
    (hs.withJoinCount (Nat.zero_le 3) fun _ => Nat.zero_le 2).of_frame rfl rfl
  rw [State.dropFrame_eq]
  split
  · exact (hdropped.classA .linkMute).of_frame
  · exact hdropped.of_frame

/-- SETUP acceptance starts the measure timer and a join (R146, R162). -/
theorem State.SupervisorSafe.acceptSetup (hmode : s.ssv.mode = .unconfigured) (c : Setup) :
    (s.acceptSetup c).SupervisorSafe := by
  have hout : s.ssv.mode ≠ .safe := by simp [hmode]
  have hssv : (s.acceptSetup c).ssv =
      { s.ssv with mode := .announcing, measureTimer := .running c.measureTimeout, joinCount := 0 } := rfl
  exact
    { cause := by simp [hssv, hs.noCause hout]
      bar := by simp [hssv, hs.noBar hout]
      join := by simp [hssv]
      announcing := by simp [hssv]
      measureTimer := rfl }

/-- An accepted MEASURE restarts the measure timer (R154, R163). -/
theorem State.SupervisorSafe.acceptMeasure (hmode : s.ssv.mode ≠ .unconfigured) (r : MeasureRecord) :
    (s.acceptMeasure r).SupervisorSafe := by
  refine (hs.restartMeasure hmode).of_frame ?_
  rw [State.acceptMeasure_eq]
  split <;> simp [State.measureNoted]

/-! ## Every command -/

theorem execResume_supervisorKept : Keeps State.SupervisorSafe (execResume s) := by
  have hended : s.endExchange.SupervisorSafe := hs.of_frame
  unfold execResume
  split
  · split
    · exact .next hended.of_frame
    · split
      · exact .next hended.of_frame
      · rename_i hbar
        exact .next (State.resumeJoin_supervisorSafe (s := s.endExchange) (by simpa using hbar)).of_frame
  · exact .next hs

/-- A frame of a motor station reaches the Station Supervisor as a clash only (R81). -/
theorem execMotorFrame_supervisorKept {h : FrameHeader} {c : Instr}
    (hc : (∃ p, c = .statusFrame h p) ∨ (∃ p, c = .slipAlertFrame h p) ∨ ∃ p, c = .faultFrame h p) :
    Keeps State.SupervisorSafe (exec c s) := by
  have hheard : s.endReception.SupervisorSafe := hs.of_frame
  exact execMotorFrame_keeps hs hheard (hheard.classA _) hs.of_frame
    (fun _ _ _ => hs.of_frame) (fun _ _ _ => hs.of_frame) (fun _ _ _ => hs.of_frame) hc

/-- Every command keeps the Station Supervisor consistent. -/
theorem exec_supervisorKept (i : Instr) : Keeps State.SupervisorSafe (exec i s) := by
  have hended : s.endExchange.SupervisorSafe := hs.of_frame
  cases i with
  | partReset powerOn stn0 stn1 stn2 => exact .next (State.afterReset_supervisorSafe ..)
  | exchangeStart => exact execExchangeStart_keeps hs (fun _ => hs.of_frame) hs.of_frame
  | shortExchange wholeBytes => exact .guarded hs fun _ => hs.of_frame
  | checkByteFail => exact .guarded hs fun _ => hs.of_frame
  | unknownRecordKind code => exact .guarded hs fun _ => hs.of_frame
  | setup r => exact execSetup_keeps hs (fun _ _ => hs.of_frame) fun hmode _ _ => hended.acceptSetup hmode _
  | measure r => exact execMeasure_keeps hs hs.of_frame fun hmode => hended.acceptMeasure hmode r
  | takeNotice => exact .guarded hs fun _ => hs.of_frame
  | readPeer station => exact execReadPeer_keeps hs (fun _ => hs.of_frame) hs.of_frame
  | safeRequest => exact execSafeRequest_keeps hs hs.of_frame (hended.classA .localRequest).of_frame
  | resume => exact execResume_supervisorKept hs
  | linkResetRequest => exact execLinkResetRequest_keeps hs (fun _ => hs.of_frame) fun _ _ _ => hs.of_frame rfl rfl
  | nop => exact .guarded hs fun _ => hs.of_frame
  | windowStart => exact .guarded hs fun _ => hs.of_frame
  | claimWon => exact execClaimWon_keeps hs fun _ _ _ _ => hs.of_frame
  | claimLost slot => exact execClaimLost_keeps hs fun _ _ => hs.of_frame rfl rfl
  | frameStart => exact .guarded hs fun _ => hs.of_frame
  | busFreeTime => exact .guarded hs fun _ => hs.of_frame
  | demandFrame h p => exact .guarded hs fun _ => hs.of_frame
  | statusFrame h p => exact execMotorFrame_supervisorKept hs (.inl ⟨p, rfl⟩)
  | slipAlertFrame h p => exact execMotorFrame_supervisorKept hs (.inr (.inl ⟨p, rfl⟩))
  | faultFrame h p => exact execMotorFrame_supervisorKept hs (.inr (.inr ⟨p, rfl⟩))
  | receiveError cause => exact .guarded hs fun _ => hs.of_frame
  | frameSent =>
    have hsent : { s with slc := s.slc.sent : State }.SupervisorSafe := hs.of_frame
    exact execFrameSent_keeps hs fun f _ _ => (hsent.reportSent f).of_frame
  | echoCheckFailed => exact execEchoCheckFailed_keeps hs (fun _ _ _ => hs.of_frame) fun f _ _ => hs.dropFrame f
  | resetDriveBegin => exact .guarded hs fun _ => hs.of_frame
  | linkResetSeen => exact execLinkResetSeen_keeps hs hs.linkReset
  | resetDriveRelease => exact .guarded hs fun _ => hs.of_frame
  | resettingReleased => exact .guarded hs fun _ => hs.of_frame
  | publishTimerExpiry => exact .guarded hs fun _ => hs.of_frame
  | demandTimerExpiry => exact .guarded hs fun _ => hs.of_frame
  | silenceTimerExpiry peer => exact .guarded hs fun _ => hs.of_frame
  | measureTimerExpiry =>
    refine .guarded hs fun hrun => ?_
    have hrestarted := hs.restartMeasure (hs.configured_of_running hrun)
    exact State.measureExpired_keeps hrestarted (hrestarted.classA _) { hrestarted with }
  | computationCompletion => exact execComputationCompletion_keeps hs fun _ _ _ => hs.of_frame
  | toothEdge ch time => exact .guarded hs fun _ => hs.of_frame
  | stopTimerExpiry ch => exact .guarded hs fun _ => hs.of_frame
  | slipSample => exact .guarded hs fun _ => hs.of_frame
  | settleTimerExpiry => exact .guarded hs fun _ => hs.of_frame
  | gripRecoveryExpiry => exact .guarded hs fun _ => hs.of_frame
  | capRecoveryExpiry => exact .guarded hs fun _ => hs.of_frame
  | interimTimerExpiry => exact execInterimTimerExpiry_keeps hs hs.of_frame
  | millisecondTick => exact .next hs.of_frame

end

/-- Settles O57: the queue of commands is no item of the supervisor, and every command keeps it consistent. -/
theorem supervisorStaysSafe : Obligations.SupervisorStaysSafe := by
  unfold Obligations.SupervisorStaysSafe
  intro s t hs hstep
  exact step_keeps (fun _ => hs.of_frame) (fun i _ hu => exec_supervisorKept hu i) hstep

end Sys2Proof.Machine
end

section
/-! PROOFS. The part reset and the state it leaves (O4, O54). -/

namespace Sys2Proof.Machine

/-! ## PART_RESET (R43, R143, R144) -/

/-- The straps weighted 1, 2 and 4 (R43). -/
theorem strapNumber_val (stn0 stn1 stn2 : Bool) :
    (strapNumber stn0 stn1 stn2).val = stn0.toNat + 2 * stn1.toNat + 4 * stn2.toNat := by
  revert stn0 stn1 stn2
  decide

theorem PeerTable.afterReset_entry (n : StationNumber) : PeerTable.afterReset.entry n = .cleared := by
  simp [PeerTable.afterReset, PeerTable.entry]

/-- Settles O4: the items of `State.afterReset`, block by block. -/
theorem partResetSetsEveryItem : Obligations.PartResetSetsEveryItem := by
  unfold Obligations.PartResetSetsEveryItem
  intro powerOn stn0 stn1 stn2 s
  refine ⟨State.afterReset s.pending s.timebase (if powerOn then .power else .pin) (strapNumber stn0 stn1 stn2), rfl,
    strapNumber_val stn0 stn1 stn2, rfl, ?_⟩
  have hentries := PeerTable.afterReset_entry
  exact ⟨rfl, rfl, rfl, rfl, rfl, rfl, rfl, rfl, rfl, hentries, rfl, rfl, rfl, rfl, rfl, rfl, rfl, rfl, rfl, rfl, rfl, rfl,
    rfl, rfl, rfl, rfl, rfl, rfl, rfl⟩

/-! ## Reset and the invariants -/

section
variable (pending : List Instr) (timebase : TimeStamp) (cause : ResetCause) (n : StationNumber)

/-- A part reset empties the notice queue and stops the interim timer (R158). -/
theorem State.afterReset_portSafe : (State.afterReset pending timebase cause n).PortSafe where
  capacity := Nat.zero_le _
  interim := iff_of_true rfl (.inl rfl)
  running ms h := by cases h
  ntc := rfl
  exchange h := by cases h
  received := Nat.zero_le _
  atRest _ := rfl

/-- A part reset clears every counter. -/
theorem State.afterReset_countersSafe : (State.afterReset pending timebase cause n).CountersSafe where
  echoRun := Nat.zero_le _
  crcErrors := Nat.zero_le _
  lostClaims := Nat.zero_le _
  framesDropped := Nat.zero_le _
  misplaced := Nat.zero_le _
  gaps m := by
    change (PeerTable.afterReset.entry m).gaps ≤ 255
    rw [PeerTable.afterReset_entry]
    exact Nat.zero_le _
  rejected := ⟨Nat.zero_le _, Nat.zero_le _⟩
  slipEvents := Nat.zero_le _
  noticesLost := Nat.zero_le _
  overruns := Nat.zero_le _

end

/-- Settles O54: reset is a part reset, and a part reset meets each invariant. -/
theorem resetIsSafe : Obligations.ResetIsSafe :=
  ⟨State.afterReset_wheelSafe .., State.afterReset_portSafe .., State.afterReset_countersSafe ..,
    State.afterReset_supervisorSafe .., State.afterReset_linkSafe .., State.afterReset_schedulerSafe ..,
    State.afterReset_torqueSafe ..⟩

end Sys2Proof.Machine
end

section
/-! PROOFS. Class A conditions, the requests for SAFE and out of it, and the measure timer (O15 to O17). -/

namespace Sys2Proof.Machine

section
variable {s : State}

/-! ## Class A conditions (R148 to R151) -/

/-- The station as it leaves SHARING, written out (R40, R120). -/
theorem State.leaveSharing_eq (s : State) :
    s.leaveSharing =
      if s.ssv.mode = .sharing then
        { s with
          cms := { s.cms with held := 0, motor := 0, rateLimited := false, resultSeq := s.cms.resultSeq + 1 }
          slm := { s.slm with
            state := .off, grip := 16, slipCap := none, baseline := 0, confirmCount := 0, accel := 0, prevRef := none,
            settleTimer := .stopped, sampleTimer := .stopped, gripTimer := .stopped, capTimer := .stopped } }
      else s := rfl

/-- SAFE entry but its notice and its move: the waiting STATUS is replaced by one of health WITHDRAWN, with the figures as
the departure from SHARING left them (R95, R97, R149). -/
theorem State.goSafe_eq (s : State) (c : FaultCause) :
    s.goSafe c =
      { s.leaveSharing with
        ssv := s.ssv.enterSafe c
        fsc := { s.fsc with
          urgent := queueFault s.fsc.urgent c
          routine := s.fsc.routine.map fun _ => ⟨.withdrawn, s.leaveSharing.figures⟩ } } :=
  State.replaceRoutine_eq rfl

/-- Settles O15, by the mode. -/
theorem classACondition : Obligations.ClassACondition := by
  unfold Obligations.ClassACondition
  intro cause s
  refine ⟨s.classA_unconfigured cause, fun hmode => ?_, s.classA_safe cause⟩
  intro quiet
  have hquiet : s.leaveSharing = quiet := s.leaveSharing_eq
  rw [s.classA_active cause hmode, State.enterSafe, State.goSafe_eq, hquiet]
  rfl

/-! ## SAFE_REQUEST and RESUME accepted (R148, R152, R167) -/

theorem exec_safeRequest_accepted (hexchange : s.lpt.inExchange = true) (hmode : s.ssv.mode ≠ .unconfigured) :
    exec .safeRequest s = .next ((s.endExchange.classA .localRequest).place (.ack .safeRequest)) := by
  change execSafeRequest s = _
  rw [execSafeRequest, if_pos hexchange, if_neg hmode]

theorem exec_resume_accepted (hexchange : s.lpt.inExchange = true) (hmode : s.ssv.mode = .safe)
    (hbar : s.ssv.clashBar = false) : exec .resume s = .next (s.endExchange.resumeJoin.place (.ack .resume)) := by
  change execResume s = _
  simp [execResume, hexchange, hmode, hbar]

/-- The reply slot is none of the move's concern. -/
theorem State.move_place (s : State) (r : Reply) : s.move.place r = (s.place r).move := by
  unfold State.move
  split
  · rename_i hcan
    rw [if_pos (by exact hcan)]
    cases htake : s.fsc.take <;> simp [State.place, htake]
  · rename_i hcan
    rw [if_neg (by exact hcan)]

/-- Settles O16: both requests meet their conditions; the STATUS a RESUME replaces has the health of ANNOUNCING. -/
theorem safeRequestAndResumeAccepted : Obligations.SafeRequestAndResumeAccepted := by
  unfold Obligations.SafeRequestAndResumeAccepted
  refine ⟨fun s hexchange hmode => exec_safeRequest_accepted hexchange hmode, fun s hexchange hmode hbar => ?_⟩
  rw [exec_resume_accepted hexchange hmode hbar, State.resumeJoin, State.move_place, State.replaceRoutine_eq rfl]
  rfl

/-! ## MEASURE_TIMER_EXPIRY (R154, R155) -/

theorem exec_measureTimerExpiry {ms : Nat} (hrun : s.ssv.measureTimer = .running ms) :
    exec .measureTimerExpiry s =
      .next { s with ssv := { s.ssv with measureTimer := .running s.config.measureTimeout } : State }.measureExpired :=
  if_pos (by rw [hrun]; rfl)

theorem State.measureExpired_active (hmode : s.ssv.mode = .announcing ∨ s.ssv.mode = .sharing) :
    s.measureExpired = s.classA .measureTimeout := by
  rcases hmode with hmode | hmode <;> simp [State.measureExpired, hmode]

theorem State.measureExpired_safe (hmode : s.ssv.mode = .safe) :
    s.measureExpired = if s.ssv.measureLost then s else s.loseMeasure := by
  simp [State.measureExpired, hmode, State.loseMeasure]

/-- Settles O17, by the mode and the measure-lost mark. -/
theorem measureTimerExpires : Obligations.MeasureTimerExpires := by
  unfold Obligations.MeasureTimerExpires
  intro ms s hrun restarted
  have hexec : exec .measureTimerExpiry s = .next restarted.measureExpired := exec_measureTimerExpiry hrun
  rw [hexec]
  refine ⟨fun hmode => ?_, fun hmode hlost => ?_, fun hmode hlost => ?_⟩
  · rw [State.measureExpired_active (s := restarted) hmode]
  · rw [State.measureExpired_safe (s := restarted) hmode, if_neg (by simp [restarted, hlost])]
    rfl
  · rw [State.measureExpired_safe (s := restarted) hmode, if_pos hlost]

end

end Sys2Proof.Machine
end

section
/-! PROOFS. The Local Port's own operations: notices, the interim timer, the notice line and the millisecond count (O14). -/

namespace Sys2Proof.Machine

/-! ## Notices (R171 to R174) -/

theorem ntcCondition_eq (threshold count : Nat) (interim : InterimTimer) :
    ntcCondition threshold count interim = (decide (threshold ≤ count) || decide (1 ≤ count ∧ interim = .expired)) := by
  simp [ntcCondition, Bool.beq_eq_decide_eq]

section
variable {s : State} (kind : NoticeKind) (station : Option StationNumber) (value : Option Nat)

/-- A notice joins at the tail, and starts the interim timer of an empty queue once configured (R171 to R173). -/
theorem State.notify_of_room (hroom : s.lpt.notices.length < 16) :
    s.notify kind station value =
      { s with
        lpt := ({ s.lpt with
          notices := s.lpt.notices ++ [⟨kind, station, value, s.lpt.msCount⟩]
          interim := if s.ssv.mode ≠ .unconfigured ∧ s.lpt.notices = [] then .running s.config.interimTime
            else s.lpt.interim } : LocalPort).setNtc s.noticeThreshold } := by
  rw [State.notify, LocalPort.join_room _ _ _ hroom, State.interimTime]
  by_cases hmode : s.ssv.mode = .unconfigured <;> simp [hmode]

/-- A notice is dropped and counted at a full queue (R171). -/
theorem State.notify_of_full (hfull : 16 ≤ s.lpt.notices.length) :
    s.notify kind station value =
      { s with
        lpt := ({ s.lpt with noticesLost := min 255 (s.lpt.noticesLost + 1) } : LocalPort).setNtc s.noticeThreshold } := by
  rw [State.notify, LocalPort.join_full _ _ _ hfull]

/-- A notice waits after every event that queues one, joined or not. -/
theorem State.notify_notices_ne_nil : (s.notify kind station value).lpt.notices ≠ [] := by
  rcases Nat.lt_or_ge s.lpt.notices.length 16 with hroom | hfull
  · simp [State.notify_of_room _ _ _ hroom]
  · rw [State.notify_of_full _ _ _ hfull]
    exact List.ne_nil_of_length_pos (Nat.lt_of_lt_of_le (by decide) hfull)

theorem State.notify_length_le (h : s.lpt.notices.length ≤ 16) :
    (s.notify kind station value).lpt.notices.length ≤ 16 := by
  rcases Nat.lt_or_ge s.lpt.notices.length 16 with hroom | hfull
  · simpa [State.notify_of_room _ _ _ hroom] using hroom
  · rwa [State.notify_of_full _ _ _ hfull]

end

/-! ## The interim timer and the millisecond count (R171, R173) -/

theorem exec_interimTimerExpiry {s : State} {ms : Nat} (hrun : s.lpt.interim = .running ms) :
    exec .interimTimerExpiry s = .next { s with lpt := { s.lpt with interim := .expired }.setNtc s.noticeThreshold } := by
  change execInterimTimerExpiry s = _
  rw [execInterimTimerExpiry, hrun]

/-- The notice line after a notice has joined: the timer it starts is not EXPIRED (R174). -/
theorem ntcCondition_joined (s : State) (threshold : Nat) :
    ntcCondition threshold (s.lpt.notices.length + 1)
        (if s.ssv.mode ≠ .unconfigured ∧ s.lpt.notices = [] then .running s.config.interimTime else s.lpt.interim) =
      (decide (threshold ≤ s.lpt.notices.length + 1) ||
        decide (s.lpt.interim = .expired ∧ (s.ssv.mode = .unconfigured ∨ s.lpt.notices ≠ []))) := by
  rw [ntcCondition_eq]
  by_cases hmode : s.ssv.mode = .unconfigured <;> by_cases hempty : s.lpt.notices = [] <;> simp [hmode, hempty]

/-- Settles O14: with room and at a full queue, NTC in each case by its condition (R174). -/
theorem noticesAndPortTimers : Obligations.NoticesAndPortTimers := by
  unfold Obligations.NoticesAndPortTimers
  refine ⟨fun kind station value s => ⟨fun hroom => ?_, fun hfull => ?_⟩, fun ms s hrun => ?_, fun s => rfl⟩
  · rw [State.notify_of_room kind station value hroom, LocalPort.setNtc, List.length_append, List.length_singleton,
      ntcCondition_joined]
    rfl
  · have hwaiting : 1 ≤ s.lpt.notices.length := by omega
    rw [State.notify_of_full kind station value hfull, LocalPort.setNtc, ntcCondition_eq]
    simp only [hwaiting, true_and]
    rfl
  · have hwaiting : 1 ≤ s.lpt.notices.length ↔ s.lpt.notices ≠ [] := List.length_pos_iff
    rw [exec_interimTimerExpiry hrun, LocalPort.setNtc, ntcCondition_eq]
    simp only [hwaiting, and_true]
    rfl

end Sys2Proof.Machine
end

section
/-! PROOFS. The Local Port stays in order (O56): what the invariant reads, each operation that queues or sends, and every
command. -/

namespace Sys2Proof.Machine

/-! ## What the invariant reads -/

section
variable {s t : State}

/-- The order reads the Local Port, the configuration, and whether the station is configured. -/
theorem State.PortSafe.of_frame (hs : s.PortSafe) (hlpt : t.lpt = s.lpt) (hconfig : t.config = s.config)
    (hmode : t.ssv.mode = .unconfigured ↔ s.ssv.mode = .unconfigured) : t.PortSafe where
  capacity := by rw [hlpt]; exact hs.capacity
  interim := by rw [hlpt, hmode]; exact hs.interim
  running := by rw [hlpt, hconfig]; exact hs.running
  ntc := by
    have hthreshold : t.noticeThreshold = s.noticeThreshold := by simp only [State.noticeThreshold, hmode, hconfig]
    rw [hlpt, hthreshold]
    exact hs.ntc
  exchange := by rw [hlpt]; exact hs.exchange
  received := by rw [hlpt]; exact hs.received
  atRest := by rw [hlpt]; exact hs.atRest

end

section
variable {s : State} (hs : s.PortSafe)
include hs

/-! ## Notices (R171 to R174) -/

/-- A notice starts the interim timer of an empty queue, or finds a timer that is not stopped (R172, R173). -/
theorem State.PortSafe.notify (kind : NoticeKind) (station : Option StationNumber) (value : Option Nat) :
    (s.notify kind station value).PortSafe := by
  rcases Nat.lt_or_ge s.lpt.notices.length 16 with hroom | hfull
  · rw [State.notify_of_room kind station value hroom]
    exact
      { hs with
        capacity := by simpa using hroom
        interim := by
          rw [LocalPort.setNtc_interim, LocalPort.setNtc_notices]
          split
          · rename_i hfirst
            exact iff_of_false (by simp) (by simp [hfirst.1])
          · rename_i hnot
            rw [hs.interim]
            simpa using fun hempty => not_not.mp fun hmode => hnot ⟨hmode, hempty⟩
        running := fun ms h => by
          rw [LocalPort.setNtc_interim] at h
          split at h
          · cases h
            rfl
          · exact hs.running ms h
        ntc := rfl }
  · rw [State.notify_of_full kind station value hfull]
    exact { hs with ntc := rfl }

theorem State.PortSafe.notifyTable (n : StationNumber) (o : Option TableNotice) : (s.notifyTable n o).PortSafe := by
  obtain heq | ⟨k, v, heq⟩ := s.notifyTable_cases n o <;> rw [heq]
  · exact hs
  · exact hs.notify ..

theorem State.PortSafe.move : s.move.PortSafe := hs.of_frame s.move_lpt s.move_config (by rw [s.move_ssv])

/-- The interim timer of a queue that holds a notice expires (R173). -/
theorem State.PortSafe.expireInterim {ms : Nat} (hrun : s.lpt.interim = .running ms) :
    { s with lpt := { s.lpt with interim := .expired }.setNtc s.noticeThreshold : State }.PortSafe :=
  { hs with
    interim := iff_of_false (by simp) fun h => by cases (hs.interim.mpr h).symm.trans hrun
    running := fun _ h => by cases h
    ntc := rfl }

/-! ## Exchanges (R158 to R161) -/

theorem State.PortSafe.endExchange : s.endExchange.PortSafe :=
  { hs with exchange := nofun, received := Nat.zero_le _, atRest := fun _ => rfl }

theorem State.PortSafe.place (r : Reply) : (s.place r).PortSafe := { hs with }

/-- A record sent opens an exchange, of which no byte has come in (R159). -/
theorem State.PortSafe.send (r : OutRecord) : { s with lpt := s.lpt.send r : State }.PortSafe :=
  { hs with exchange := fun _ => rfl, received := Nat.zero_le _, atRest := fun _ => rfl }

theorem State.PortSafe.sendState : s.sendState.PortSafe :=
  { hs with exchange := fun _ => rfl, received := Nat.zero_le _, atRest := fun _ => rfl }

/-- The interim timer stops when the send of a NOTICE empties the queue (R165, R172). -/
theorem State.PortSafe.sendNotice : s.sendNotice.PortSafe := by
  unfold State.sendNotice
  split
  · exact hs.send _
  · rename_i n rest hnotices
    have htaken : { s with lpt := s.lpt.takeOldest.setNtc s.noticeThreshold : State }.PortSafe :=
      { hs with
        capacity := by
          have := hs.capacity
          simp [LocalPort.takeOldest]
          omega
        interim := by
          have := hs.interim
          simp only [hnotices, reduceCtorEq, or_false] at this
          cases rest <;> simp [LocalPort.takeOldest, hnotices, this]
        running := fun ms h => by
          simp only [LocalPort.setNtc_interim, LocalPort.takeOldest] at h
          split at h
          · cases h
          · exact hs.running ms h
        ntc := rfl }
    exact htaken.send _

theorem State.PortSafe.sendPeerView (n : StationNumber) : (s.sendPeerView n).PortSafe := by
  unfold State.sendPeerView
  split
  · exact hs.send _
  · split <;> exact { hs.send _ with }

theorem State.PortSafe.sendReply (r : Reply) : (s.sendReply r).PortSafe := by
  have htaken : s.replyTaken.PortSafe := { hs with }
  cases r with
  | ack k => exact htaken.send _
  | refuse k reason i => exact htaken.send _
  | notice => exact htaken.sendNotice
  | peerView n => exact htaken.sendPeerView n

/-! ## Changes of the station mode -/

/-- SETUP acceptance starts the interim timer on a queue that holds a notice by then (R173). -/
theorem State.PortSafe.acceptSetup (c : Setup) : (s.acceptSetup c).PortSafe := by
  exact
    { capacity := State.notify_length_le _ _ _ hs.capacity
      interim := iff_of_false (by simp [State.acceptSetup, State.startInterim, State.place]) fun h =>
        h.elim nofun (State.notify_notices_ne_nil _ _ _)
      running := fun ms h => by
        cases h
        rfl
      ntc := rfl
      exchange := by simpa [State.acceptSetup, State.startInterim, State.place] using hs.exchange
      received := by simpa [State.acceptSetup, State.startInterim, State.place] using hs.received
      atRest := by simpa [State.acceptSetup, State.startInterim, State.place] using hs.atRest }

theorem State.PortSafe.enterSafe (hmode : s.ssv.mode ≠ .unconfigured) (c : FaultCause) : (s.enterSafe c).PortSafe := by
  have hsafe : (s.goSafe c).PortSafe :=
    hs.of_frame (s.goSafe_lpt c) (s.goSafe_config c) (iff_of_false (by simp [State.goSafe_ssv, Supervisor.enterSafe]) hmode)
  exact (hsafe.notify ..).move

theorem State.PortSafe.classAInSafe (c : FaultCause) : (s.classAInSafe c).PortSafe := by
  refine State.PortSafe.notify ?_ ..
  exact { hs with }

theorem State.PortSafe.classA (c : FaultCause) : (s.classA c).PortSafe :=
  State.classA_keeps hs (fun hmode _ => hs.enterSafe hmode c) fun _ => hs.classAInSafe c

theorem State.PortSafe.linkReset : s.linkReset.PortSafe := by
  refine State.PortSafe.notify ?_ ..
  exact hs.of_frame rfl rfl s.ssv.linkReset_unconfigured_iff

theorem State.PortSafe.dropFrame (f : TransmitFrame) : (s.dropFrame f).PortSafe := by
  have hdropped : (s.frameDropped f).PortSafe := by
    refine State.PortSafe.notify ?_ ..
    exact { hs with }
  rw [State.dropFrame_eq]
  split
  · exact (hdropped.classA .linkMute).move
  · exact hdropped.move

/-! ## MEASURE (R163, R164) -/

theorem State.PortSafe.noteClamp (r : MeasureRecord) : (s.noteClamp r).PortSafe := by
  have hclamped : { s with lpt := { s.lpt with clamped := true } : State }.PortSafe := { hs with }
  unfold State.noteClamp
  split
  · exact hclamped.notify ..
  · exact hs

theorem State.PortSafe.holdMeasure (m : Measure) : (s.holdMeasure m).PortSafe := by
  unfold State.holdMeasure
  split
  · exact { hs with }
  · have hheld : { s with lpt := { s.lpt with
        holding := some m, overruns := countUp s.lpt.overruns, overrunSeen := true } : State }.PortSafe := { hs with }
    exact hheld.notify ..

theorem State.PortSafe.acceptMeasure (r : MeasureRecord) : (s.acceptMeasure r).PortSafe := by
  have hnoted : (s.measureNoted r).PortSafe := { hs.noteClamp r with }
  rw [State.acceptMeasure_eq]
  split
  · exact hnoted.holdMeasure _
  · exact { hnoted with }

/-! ## Computations and samples (R28, R64, R133, R139) -/

theorem State.PortSafe.reportSag (before : SagState) (voltage : Nat) : (s.reportSag before voltage).PortSafe := by
  have hseen : { s with lpt := { s.lpt with sagSeen := true } : State }.PortSafe := { hs with }
  unfold State.reportSag
  split
  · exact hseen.notify ..
  · exact hs.notify ..
  · exact hs

theorem State.PortSafe.chain : s.chain.PortSafe := by
  have hemptied : { s with lpt := { s.lpt with holding := none } : State }.PortSafe := { hs with }
  unfold State.chain
  split
  · exact { hemptied with }
  · exact hs

theorem State.PortSafe.complete (sn : Snapshot) : (s.complete sn).PortSafe := by
  have hstored : (s.stored sn).PortSafe := { hs with }
  exact (hstored.reportSag _ _).chain

theorem State.PortSafe.slipEvent (m : Monitor) (slip : Nat) : (s.slipEvent m slip).PortSafe := by
  refine State.PortSafe.move (State.PortSafe.notify ?_ ..)
  exact { hs with }

theorem State.PortSafe.sample (hon : s.slm.state ≠ .off) : s.sample.PortSafe := by
  rcases State.sample_cases hon with ⟨m, -, heq⟩ | ⟨m, slip, heq⟩ <;> rw [heq]
  · exact { hs with }
  · exact hs.slipEvent m slip

theorem State.PortSafe.afterRecovery (m : Monitor) : (s.afterRecovery m).PortSafe := by
  have hfinished : { s with slm := m.finishRecovery : State }.PortSafe := { hs with }
  simp only [State.afterRecovery]
  split
  · exact hfinished.notify ..
  · exact hfinished

/-! ## Every command -/

/-- A frame of a motor station reaches the Local Port by its notices only (R64, R150). -/
theorem execMotorFrame_portKept {h : FrameHeader} {c : Instr}
    (hc : (∃ p, c = .statusFrame h p) ∨ (∃ p, c = .slipAlertFrame h p) ∨ ∃ p, c = .faultFrame h p) :
    Keeps State.PortSafe (exec c s) := by
  have hheard : s.endReception.PortSafe := { hs with }
  have hentry : ∀ n e, (s.endReception.withEntry n e).PortSafe := fun n e => { hheard with }
  exact execMotorFrame_keeps hs hheard (hheard.classA _) { hheard with }
    (fun n _ _ => ((hentry n _).notifyTable n _).notifyTable n _) (fun _ _ _ => { hheard with })
    (fun n _ _ => (hentry n _).notifyTable n _) hc

theorem State.PortSafe.applyDemand (seq : Seq) (c : DemandContent) : (s.applyDemand seq c).PortSafe := by
  unfold State.applyDemand
  split
  · exact hs
  · refine State.PortSafe.notifyTable ?_ ..
    exact { hs with }

theorem execInterimTimerExpiry_portKept : Keeps State.PortSafe (execInterimTimerExpiry s) := by
  unfold execInterimTimerExpiry
  split
  · exact .next (hs.expireInterim ‹_›)
  · exact .next hs
  · exact .next hs

/-- Every command keeps the Local Port in order. -/
theorem exec_portKept (i : Instr) : Keeps State.PortSafe (exec i s) := by
  have hended := hs.endExchange
  have hheard : s.endReception.PortSafe := { hs with }
  cases i with
  | partReset powerOn stn0 stn1 stn2 => exact .next (State.afterReset_portSafe ..)
  | exchangeStart => exact execExchangeStart_keeps hs hs.sendReply hs.sendState
  | shortExchange wholeBytes => exact .guarded hs fun _ => hended.place _
  | checkByteFail => exact .guarded hs fun _ => hended.place _
  | unknownRecordKind code => exact .guarded hs fun _ => hended.place _
  | setup r => exact execSetup_keeps hs (fun _ _ => hended.place _) fun _ _ _ => hended.acceptSetup _
  | measure r => exact execMeasure_keeps hs (hended.place _) fun _ => hended.acceptMeasure r
  | takeNotice => exact .guarded hs fun _ => hended.place _
  | readPeer station => exact execReadPeer_keeps hs (fun _ => hended.place _) (hended.place _)
  | safeRequest => exact execSafeRequest_keeps hs (hended.place _) ((hended.classA _).place _)
  | resume =>
    refine execResume_keeps hs (fun _ => hended.place _) fun hmode => State.PortSafe.place ?_ _
    exact hended.of_frame (by simp) (by simp) (iff_of_false (by simp [State.resumeJoin]) (by simp [hmode]))
  | linkResetRequest =>
    have hrequested : s.requestReset.PortSafe := { hended with }
    exact execLinkResetRequest_keeps hs (fun _ => hended.place _) fun _ _ _ => hrequested.place _
  | nop => exact .guarded hs fun _ => hended
  | windowStart => exact .guarded hs fun _ => { hs with }
  | claimWon =>
    exact execClaimWon_keeps hs fun f _ _ _ =>
      hs.of_frame (s.winClaim_lpt f) (s.winClaim_config f) (by rw [s.winClaim_ssv])
  | claimLost slot => exact execClaimLost_keeps hs fun _ _ => { hs with }
  | frameStart => exact .guarded hs fun _ => { hs with }
  | busFreeTime =>
    have hfreed : { s with slc := s.slc.becomeFree : State }.PortSafe := { hs with }
    exact .guarded hs fun _ => hfreed.move
  | demandFrame h p =>
    exact .guarded hs fun _ => State.deliverDemand_keeps hheard { hheard with } (hheard.applyDemand h.seq)
  | statusFrame h p => exact execMotorFrame_portKept hs (.inl ⟨p, rfl⟩)
  | slipAlertFrame h p => exact execMotorFrame_portKept hs (.inr (.inl ⟨p, rfl⟩))
  | faultFrame h p => exact execMotorFrame_portKept hs (.inr (.inr ⟨p, rfl⟩))
  | receiveError cause => exact .guarded hs fun _ => { hs with }
  | frameSent =>
    have hsent : { s with slc := s.slc.sent : State }.PortSafe := { hs with }
    exact execFrameSent_keeps hs fun f _ _ => State.PortSafe.move <|
      hsent.of_frame (State.reportSent_lpt _ f) (State.reportSent_config _ f) (State.reportSent_unconfigured_iff _ f)
  | echoCheckFailed => exact execEchoCheckFailed_keeps hs (fun _ _ _ => { hs with }) fun f _ _ => hs.dropFrame f
  | resetDriveBegin => exact .guarded hs fun _ => { hs with }
  | linkResetSeen => exact execLinkResetSeen_keeps hs hs.linkReset
  | resetDriveRelease =>
    have hreleased : { s with slc := { s.slc with resetDrive := .none } : State }.PortSafe := { hs with }
    exact .guarded hs fun _ => hreleased.move
  | resettingReleased => exact .guarded hs fun _ => { hs with }
  | publishTimerExpiry =>
    refine .guarded hs fun _ => State.PortSafe.move ?_
    exact { hs with }
  | demandTimerExpiry =>
    refine .guarded hs fun _ => State.PortSafe.notifyTable ?_ ..
    exact { hs with }
  | silenceTimerExpiry peer =>
    refine .guarded hs fun _ => State.PortSafe.notifyTable ?_ ..
    exact { hs with }
  | measureTimerExpiry =>
    refine .guarded hs fun _ => ?_
    have hrestarted : { s with
        ssv := { s.ssv with measureTimer := .running s.config.measureTimeout } : State }.PortSafe := { hs with }
    have hmarked : { s with
        ssv := { s.ssv with measureTimer := .running s.config.measureTimeout, measureLost := true } : State }.PortSafe :=
      { hs with }
    exact State.measureExpired_keeps hrestarted (hrestarted.classA _) (hmarked.notify ..)
  | computationCompletion => exact execComputationCompletion_keeps hs fun sn _ _ => hs.complete sn
  | toothEdge ch time => exact .guarded hs fun _ => { hs with }
  | stopTimerExpiry ch => exact .guarded hs fun _ => { hs with }
  | slipSample => exact .guarded hs fun hon => hs.sample (by simpa using (Bool.and_eq_true_iff.mp hon).2)
  | settleTimerExpiry => exact .guarded hs fun _ => { hs with }
  | gripRecoveryExpiry => exact .guarded hs fun _ => hs.afterRecovery _
  | capRecoveryExpiry => exact .guarded hs fun _ => hs.afterRecovery _
  | interimTimerExpiry => exact execInterimTimerExpiry_portKept hs
  | millisecondTick => exact .next { hs with }

end

end Sys2Proof.Machine
end

section
/-! PROOFS. Every counter stays within 0..255 (O56): it counts by `countUp` or is cleared, in each block and by every command. -/

namespace Sys2Proof.Machine

/-! ## A counter over the operations of its block -/

/-- An edge counts where it is rejected only (R109, R114). -/
theorem WheelUnit.edge_rejected_le {w : WheelUnit} (h : w.chA.rejected ≤ 255 ∧ w.chB.rejected ≤ 255) (cfg : Setup)
    (ch : Channel) (time : TimeStamp) :
    (w.edge cfg ch time).chA.rejected ≤ 255 ∧ (w.edge cfg ch time).chB.rejected ≤ 255 := by
  unfold WheelUnit.edge
  cases ch with
  | a =>
    split
    · exact h
    · split
      · exact ⟨countUp_le _, h.2⟩
      · exact h
  | b =>
    split
    · exact h
    · split
      · exact ⟨h.1, countUp_le _⟩
      · exact h

theorem PeerEntry.hear_gaps_le {e : PeerEntry} (he : e.gaps ≤ 255) (seq : Seq) (timeout : Nat) :
    (e.hear seq timeout).gaps ≤ 255 := by
  simp only [PeerEntry.hear]
  split
  · exact countUp_le _
  · exact he

theorem PeerEntry.checkDiscord_gaps (e : PeerEntry) (difference : Option Nat) (band : Nat) :
    (e.checkDiscord difference band).gaps = e.gaps := by
  cases difference with
  | none => rfl
  | some d =>
    simp only [PeerEntry.checkDiscord, PeerEntry.judgeDiscord]
    split <;> rfl

theorem PeerEntry.applyStatus_gaps_le {e : PeerEntry} (he : e.gaps ≤ 255) (seq : Seq) (c : StatusContent) (timeout : Nat) :
    (e.applyStatus seq c timeout).gaps ≤ 255 := by
  obtain ⟨st, n, count, mark, alert, fault, hframe⟩ :=
    (e.heardStatus seq c timeout).onStatus_frame (e.seqResult seq) c.health
  have hgaps : (e.applyStatus seq c timeout).gaps = (e.hear seq timeout).gaps := (congrArg PeerEntry.gaps hframe :)
  exact hgaps ▸ e.hear_gaps_le he seq timeout

theorem PeerEntry.applySlipAlert_gaps_le {e : PeerEntry} (he : e.gaps ≤ 255) (seq : Seq) (a : SlipAlert) (timeout : Nat) :
    (e.applySlipAlert seq a timeout).gaps ≤ 255 := by
  unfold PeerEntry.applySlipAlert
  split <;> exact e.hear_gaps_le he seq timeout

theorem PeerEntry.fallSilent_gaps (e : PeerEntry) : e.fallSilent.gaps = e.gaps := by
  unfold PeerEntry.fallSilent
  split <;> rfl

theorem Monitor.enter_slipEvents (m : Monitor) (cfg : Setup) (sense : Sense) :
    (m.enter cfg sense).slipEvents = m.slipEvents := by rw [Monitor.enter_eq]

theorem State.senseAndFilter_slipEvents (s : State) : s.senseAndFilter.slipEvents = s.slm.slipEvents := by
  rw [State.senseAndFilter_eq]
  exact Monitor.takeSense_slipEvents ..

theorem Monitor.finishRecovery_slipEvents (m : Monitor) : m.finishRecovery.slipEvents = m.slipEvents := by
  unfold Monitor.finishRecovery
  split <;> rfl

theorem Monitor.capStep_slipEvents (m : Monitor) (step interval : Nat) (caps : Caps) :
    (m.capStep step interval caps).slipEvents = m.slipEvents := by
  unfold Monitor.capStep
  split
  · rfl
  · split <;> rfl

section
variable {s : State} (hs : s.CountersSafe)
include hs

/-! ## One entry replaced, notices, and the move (R98, R171) -/

theorem State.CountersSafe.withEntry (n : StationNumber) {e : PeerEntry} (he : e.gaps ≤ 255) :
    (s.withEntry n e).CountersSafe :=
  { hs with
    gaps := fun m => by
      rw [State.withEntry_ptb]
      by_cases hm : n = m
      · rwa [← hm, PeerTable.entry_withEntry_same]
      · rw [PeerTable.entry_withEntry_other _ _ _ _ hm]
        exact hs.gaps m }

theorem State.CountersSafe.notify (kind : NoticeKind) (station : Option StationNumber) (value : Option Nat) :
    (s.notify kind station value).CountersSafe := by
  rcases Nat.lt_or_ge s.lpt.notices.length 16 with hroom | hfull
  · rw [State.notify_of_room kind station value hroom]
    exact { hs with }
  · rw [State.notify_of_full kind station value hfull]
    exact { hs with noticesLost := Nat.min_le_left .. }

theorem State.CountersSafe.notifyTable (n : StationNumber) (o : Option TableNotice) : (s.notifyTable n o).CountersSafe := by
  obtain heq | ⟨k, v, heq⟩ := s.notifyTable_cases n o <;> rw [heq]
  · exact hs
  · exact hs.notify ..

theorem State.CountersSafe.move : s.move.CountersSafe := by
  rcases s.move_cases with heq | ⟨f, rest, -, -, -, heq⟩ <;> rw [heq]
  · exact hs
  · exact { hs with }

/-! ## Exchanges (R50, R65, R114, R170) -/

theorem State.CountersSafe.endExchange : s.endExchange.CountersSafe := { hs with }

theorem State.CountersSafe.place (r : Reply) : (s.place r).CountersSafe := { hs with }

/-- The send of a STATE clears the rejected-edge counters, the lost notices and the overruns (R114, R170). -/
theorem State.CountersSafe.sendState : s.sendState.CountersSafe :=
  { hs with rejected := ⟨Nat.zero_le _, Nat.zero_le _⟩, noticesLost := Nat.zero_le _, overruns := Nat.zero_le _ }

theorem State.CountersSafe.sendNotice : s.sendNotice.CountersSafe := by
  unfold State.sendNotice
  split <;> exact { hs with }

/-- The send of a PEER_VIEW clears the link counters and the slip event counter, or the gap counter of an entry (R50, R65). -/
theorem State.CountersSafe.sendPeerView (n : StationNumber) : (s.sendPeerView n).CountersSafe := by
  unfold State.sendPeerView
  split
  · exact { hs with }
  · split
    · exact
        { hs with
          crcErrors := Nat.zero_le _, lostClaims := Nat.zero_le _, framesDropped := Nat.zero_le _,
          misplaced := Nat.zero_le _, slipEvents := Nat.zero_le _ }
    · exact { hs.withEntry n (e := { s.ptb.entry n with gaps := 0 }) (Nat.zero_le _) with }

theorem State.CountersSafe.sendReply (r : Reply) : (s.sendReply r).CountersSafe := by
  have htaken : s.replyTaken.CountersSafe := { hs with }
  cases r with
  | ack k => exact { hs with }
  | refuse k reason i => exact { hs with }
  | notice => exact htaken.sendNotice
  | peerView n => exact htaken.sendPeerView n

/-! ## Changes of the station mode (R120, R148, R156) -/

theorem State.CountersSafe.goSafe (c : FaultCause) : (s.goSafe c).CountersSafe := by
  unfold State.goSafe State.leaveSharing
  split <;> exact { hs with }

theorem State.CountersSafe.classA (c : FaultCause) : (s.classA c).CountersSafe := by
  refine State.classA_keeps hs (fun _ _ => ((hs.goSafe c).notify ..).move) fun _ => State.CountersSafe.notify ?_ ..
  exact { hs with }

theorem State.CountersSafe.acceptSetup (c : Setup) : (s.acceptSetup c).CountersSafe := by
  have hconfigured : (s.configure c).CountersSafe := { hs with }
  exact { hconfigured.notify .setupAccepted (some s.ssv.ownNumber) none with }

theorem State.CountersSafe.resumeJoin : s.resumeJoin.CountersSafe := by
  refine State.CountersSafe.move ?_
  exact { hs with echoRun := Nat.zero_le _ }

theorem State.CountersSafe.reportSent (f : OwnFrame) : (s.reportSent f).CountersSafe := by
  simp only [State.reportSent]
  split
  · exact { hs with slipEvents := (Monitor.enter_slipEvents ..).trans_le hs.slipEvents }
  · exact { hs with }

/-- A second echo failure counts in the run and in the frames dropped (R84). -/
theorem State.CountersSafe.dropFrame (f : TransmitFrame) : (s.dropFrame f).CountersSafe := by
  have hdropped : (s.frameDropped f).CountersSafe := by
    refine State.CountersSafe.notify ?_ ..
    exact { hs with framesDropped := countUp_le _, echoRun := countUp_le _ }
  rw [State.dropFrame_eq]
  split
  · exact (hdropped.classA .linkMute).move
  · exact hdropped.move

/-- A link reset keeps every counter, the gap counters among them (R67, R87). -/
theorem State.CountersSafe.linkReset : s.linkReset.CountersSafe := by
  refine State.CountersSafe.notify ?_ ..
  exact
    { hs with
      gaps := fun n => by
        rw [PeerTable.linkReset_entry]
        exact hs.gaps n
      slipEvents := (Monitor.linkReset_slipEvents ..).trans_le hs.slipEvents }

/-! ## Frames of the other stations (R45, R51, R80) -/

theorem State.CountersSafe.countMisplaced : s.countMisplaced.CountersSafe := { hs with misplaced := countUp_le _ }

theorem State.CountersSafe.endReception : s.endReception.CountersSafe := { hs with }

theorem State.CountersSafe.applyStatus (n : StationNumber) (seq : Seq) (c : StatusContent) :
    (s.applyStatus n seq c).CountersSafe := by
  have hheard := (s.ptb.entry n).applyStatus_gaps_le (hs.gaps n) seq c s.config.silenceTimeout
  refine State.CountersSafe.notifyTable (State.CountersSafe.notifyTable ?_ ..) ..
  exact hs.withEntry n ((PeerEntry.checkDiscord_gaps _ _ _).trans_le hheard)

theorem State.CountersSafe.applyFault (n : StationNumber) (seq : Seq) (cause : FaultCause) :
    (s.applyFault n seq cause).CountersSafe := by
  refine State.CountersSafe.notifyTable ?_ ..
  exact hs.withEntry n (PeerEntry.hear_gaps_le (hs.gaps n) seq s.config.silenceTimeout)

theorem State.CountersSafe.applyDemand (seq : Seq) (c : DemandContent) : (s.applyDemand seq c).CountersSafe := by
  unfold State.applyDemand
  split
  · exact hs
  · refine State.CountersSafe.notifyTable ?_ ..
    exact { hs with }

/-! ## Receive errors and the return to FREE (R79, R82) -/

theorem State.CountersSafe.countError : { s with slc := s.slc.countError : State }.CountersSafe :=
  { hs with
    crcErrors := by
      simp only [LinkController.countError]
      split
      · exact hs.crcErrors
      · exact countUp_le _ }

theorem State.CountersSafe.becomeFree : { s with slc := s.slc.becomeFree : State }.CountersSafe := by
  rw [LinkController.becomeFree_eq]
  exact
    { hs with
      crcErrors := by
        dsimp only
        split
        · exact Nat.min_le_left ..
        · exact hs.crcErrors }

theorem State.CountersSafe.winClaim (f : TransmitFrame) : (s.winClaim f).CountersSafe := by
  unfold State.winClaim
  split <;> exact { hs with }

/-! ## MEASURE, computations and samples (R28, R133, R139, R164) -/

theorem State.CountersSafe.acceptMeasure (r : MeasureRecord) : (s.acceptMeasure r).CountersSafe := by
  have hclamp : (s.noteClamp r).CountersSafe := by
    unfold State.noteClamp
    split
    · refine State.CountersSafe.notify ?_ ..
      exact { hs with }
    · exact hs
  have hnoted : (s.measureNoted r).CountersSafe := { hclamp with }
  rw [State.acceptMeasure_eq]
  split
  · unfold State.holdMeasure
    split
    · exact { hnoted with }
    · refine State.CountersSafe.notify ?_ ..
      exact { hnoted with overruns := countUp_le _ }
  · exact { hnoted with }

theorem State.CountersSafe.complete (sn : Snapshot) : (s.complete sn).CountersSafe := by
  have hreported : ((s.stored sn).reportSag s.cms.sag sn.measure.voltage).CountersSafe := by
    have hstored : (s.stored sn).CountersSafe := { hs with }
    unfold State.reportSag
    split
    · refine State.CountersSafe.notify ?_ ..
      exact { hstored with }
    · exact hstored.notify ..
    · exact hstored
  rw [State.complete_eq, State.chain]
  split
  · exact { hreported with }
  · exact hreported

/-- A sample counts a slip event where it is one (R133). -/
theorem State.CountersSafe.sample : s.sample.CountersSafe := by
  have hsensed : s.senseAndFilter.slipEvents ≤ 255 := s.senseAndFilter_slipEvents.trans_le hs.slipEvents
  unfold State.sample
  extract_lets m
  split
  · exact { hs with slipEvents := hsensed }
  · split
    · exact { hs with slipEvents := hsensed }
    · unfold State.judge
      split
      · split
        · refine State.CountersSafe.move (State.CountersSafe.notify ?_ ..)
          exact { hs with slipEvents := countUp_le _ }
        · exact { hs with slipEvents := hsensed }
      · exact { hs with slipEvents := hsensed }

theorem State.CountersSafe.afterRecovery {m : Monitor} (hm : m.slipEvents = s.slm.slipEvents) :
    (s.afterRecovery m).CountersSafe := by
  have hfinished : { s with slm := m.finishRecovery : State }.CountersSafe :=
    { hs with slipEvents := (m.finishRecovery_slipEvents.trans hm).trans_le hs.slipEvents }
  simp only [State.afterRecovery]
  split
  · exact hfinished.notify ..
  · exact hfinished

/-! ## Every command -/

theorem execMotorFrame_countersKept {h : FrameHeader} {c : Instr}
    (hc : (∃ p, c = .statusFrame h p) ∨ (∃ p, c = .slipAlertFrame h p) ∨ ∃ p, c = .faultFrame h p) :
    Keeps State.CountersSafe (exec c s) := by
  have hheard := hs.endReception
  exact execMotorFrame_keeps hs hheard (hheard.classA _) hheard.countMisplaced hheard.applyStatus
    (fun n _ _ => hheard.withEntry n (PeerEntry.applySlipAlert_gaps_le (hheard.gaps n) ..)) hheard.applyFault hc

/-- Every command keeps the counters within 0..255. -/
theorem exec_countersKept (i : Instr) : Keeps State.CountersSafe (exec i s) := by
  have hended := hs.endExchange
  cases i with
  | partReset powerOn stn0 stn1 stn2 => exact .next (State.afterReset_countersSafe ..)
  | exchangeStart => exact execExchangeStart_keeps hs hs.sendReply hs.sendState
  | shortExchange wholeBytes => exact .guarded hs fun _ => hended.place _
  | checkByteFail => exact .guarded hs fun _ => hended.place _
  | unknownRecordKind code => exact .guarded hs fun _ => hended.place _
  | setup r => exact execSetup_keeps hs (fun _ _ => hended.place _) fun _ _ _ => hended.acceptSetup _
  | measure r => exact execMeasure_keeps hs (hended.place _) fun _ => hended.acceptMeasure r
  | takeNotice => exact .guarded hs fun _ => hended.place _
  | readPeer station => exact execReadPeer_keeps hs (fun _ => hended.place _) (hended.place _)
  | safeRequest => exact execSafeRequest_keeps hs (hended.place _) ((hended.classA _).place _)
  | resume => exact execResume_keeps hs (fun _ => hended.place _) fun _ => hended.resumeJoin.place _
  | linkResetRequest => exact execLinkResetRequest_keeps hs (fun _ => hended.place _) fun _ _ _ => { hs with }
  | nop => exact .guarded hs fun _ => hended
  | windowStart => exact .guarded hs fun _ => { hs with }
  | claimWon => exact execClaimWon_keeps hs fun f _ _ _ => hs.winClaim f
  | claimLost slot => exact execClaimLost_keeps hs fun _ _ => { hs with lostClaims := countUp_le _ }
  | frameStart => exact .guarded hs fun _ => { hs with }
  | busFreeTime => exact .guarded hs fun _ => hs.becomeFree.move
  | demandFrame h p =>
    have hheard := hs.endReception
    exact .guarded hs fun _ => State.deliverDemand_keeps hheard hheard.countMisplaced (hheard.applyDemand h.seq)
  | statusFrame h p => exact execMotorFrame_countersKept hs (.inl ⟨p, rfl⟩)
  | slipAlertFrame h p => exact execMotorFrame_countersKept hs (.inr (.inl ⟨p, rfl⟩))
  | faultFrame h p => exact execMotorFrame_countersKept hs (.inr (.inr ⟨p, rfl⟩))
  | receiveError cause => exact .guarded hs fun _ => { hs.countError with }
  | frameSent =>
    have hsent : { s with slc := s.slc.sent : State }.CountersSafe := { hs with echoRun := Nat.zero_le _ }
    exact execFrameSent_keeps hs fun f _ _ => (hsent.reportSent f).move
  | echoCheckFailed => exact execEchoCheckFailed_keeps hs (fun _ _ _ => { hs with }) fun f _ _ => hs.dropFrame f
  | resetDriveBegin => exact .guarded hs fun _ => { hs with }
  | linkResetSeen => exact execLinkResetSeen_keeps hs hs.linkReset
  | resetDriveRelease =>
    have hreleased : { s with slc := { s.slc with resetDrive := .none } : State }.CountersSafe := { hs with }
    exact .guarded hs fun _ => hreleased.move
  | resettingReleased => exact .guarded hs fun _ => { hs with }
  | publishTimerExpiry =>
    refine .guarded hs fun _ => State.CountersSafe.move ?_
    exact { hs with }
  | demandTimerExpiry =>
    refine .guarded hs fun _ => State.CountersSafe.notifyTable ?_ ..
    exact { hs with }
  | silenceTimerExpiry peer =>
    exact .guarded hs fun _ =>
      (hs.withEntry peer ((PeerEntry.fallSilent_gaps _).trans_le (hs.gaps peer))).notifyTable ..
  | measureTimerExpiry =>
    refine .guarded hs fun _ => ?_
    have hrestarted : { s with
        ssv := { s.ssv with measureTimer := .running s.config.measureTimeout } : State }.CountersSafe := { hs with }
    refine State.measureExpired_keeps hrestarted (hrestarted.classA _) (State.CountersSafe.notify ?_ ..)
    exact { hs with }
  | computationCompletion => exact execComputationCompletion_keeps hs fun sn _ _ => hs.complete sn
  | toothEdge ch time =>
    exact .guarded hs fun _ => { hs with rejected := WheelUnit.edge_rejected_le hs.rejected .. }
  | stopTimerExpiry ch => cases ch <;> exact .guarded hs fun _ => { hs with }
  | slipSample => exact .guarded hs fun _ => hs.sample
  | settleTimerExpiry => exact .guarded hs fun _ => { hs with }
  | gripRecoveryExpiry => exact .guarded hs fun _ => hs.afterRecovery rfl
  | capRecoveryExpiry => exact .guarded hs fun _ => hs.afterRecovery (Monitor.capStep_slipEvents ..)
  | interimTimerExpiry => exact execInterimTimerExpiry_keeps hs { hs with }
  | millisecondTick => exact .next { hs with }

end

/-- Settles O56: the queue of commands is no item of the port and no counter, and every command keeps both. -/
theorem portAndCountersStaySafe : Obligations.PortAndCountersStaySafe := by
  unfold Obligations.PortAndCountersStaySafe
  intro s t hstep
  refine ⟨fun hs => ?_, fun hs => ?_⟩
  · exact step_keeps (fun _ => { hs with }) (fun i _ hu => exec_portKept hu i) hstep
  · exact step_keeps (fun _ => { hs with }) (fun i _ hu => exec_countersKept hu i) hstep

end Sys2Proof.Machine
end

section
/-! PROOFS. The start of an exchange (O5, O6), and the records that are refused or place a request (O8, O10). -/

namespace Sys2Proof.Machine

section
variable {s : State}

/-! ## The start of an exchange (R159, R161, R165, R169, R170) -/

theorem exec_exchangeStart_state (hidle : s.lpt.inExchange = false) (hreply : s.lpt.reply = none) :
    exec .exchangeStart s = .next s.sendState := by
  change execExchangeStart s = _
  simp only [execExchangeStart, hidle, hreply]
  rfl

/-- Settles O5: the STATE record read item by item from its owners, with a share vector and without one. -/
theorem exchangeStartSendsState : Obligations.ExchangeStartSendsState := by
  unfold Obligations.ExchangeStartSendsState
  intro s hidle hreply
  rw [exec_exchangeStart_state hidle hreply, State.sendState, State.stateView]
  cases s.spe.vector <;> rfl

theorem State.sendNotice_empty (h : s.lpt.notices = []) :
    s.sendNotice = { s with lpt := s.lpt.send (.notice none 0) } := by
  simp only [State.sendNotice, h]

theorem State.sendNotice_oldest {n : Notice} {rest : List Notice} (h : s.lpt.notices = n :: rest) :
    s.sendNotice =
      { s with lpt := (s.lpt.takeOldest.setNtc s.noticeThreshold).send (.notice (some n) rest.length) } := by
  simp only [State.sendNotice, h]

/-- The oldest notice taken, with the notice line as the rest leaves it (R165, R172, R174). -/
theorem LocalPort.takeOldest_setNtc {l : LocalPort} {n : Notice} {rest : List Notice} (h : l.notices = n :: rest)
    (threshold : Nat) :
    l.takeOldest.setNtc threshold =
      { l with
        notices := rest
        interim := if rest = [] then .stopped else l.interim
        ntc := decide (threshold ≤ rest.length) || decide (rest ≠ [] ∧ l.interim = .expired) } := by
  cases rest <;> simp [LocalPort.takeOldest, LocalPort.setNtc, ntcCondition_eq, h]

/-- Settles O6, by the reply waiting. -/
theorem exchangeStartSendsReply : Obligations.ExchangeStartSendsReply := by
  unfold Obligations.ExchangeStartSendsReply
  refine fun s hidle => ⟨fun k hreply => ?_, fun k reason i hreply => ?_, fun hreply hempty => ?_,
    fun n rest hreply hnotices => ?_⟩
  all_goals rw [exec_exchangeStart_reply hidle hreply]
  · rfl
  · rfl
  · change Host.Outcome.next s.replyTaken.sendNotice = _
    rw [State.sendNotice_empty (by exact hempty)]
    rfl
  · change Host.Outcome.next s.replyTaken.sendNotice = _
    rw [State.sendNotice_oldest (by exact hnotices), LocalPort.takeOldest_setNtc (by exact hnotices)]
    rfl

/-! ## Requests, and exchanges that end without a record (R160, R161, R165, R166, R178) -/

/-- Settles O8: each command finds its exchange open. -/
theorem requestsAndBadRecordsPlaceReplies : Obligations.RequestsAndBadRecordsPlaceReplies := by
  unfold Obligations.RequestsAndBadRecordsPlaceReplies
  refine fun s hopen => ⟨if_pos hopen, fun b n hb => ?_, fun b hb => ?_, fun _ => if_pos hopen, if_pos hopen⟩
  · have hlt : b.toNat < 8 := hb ▸ n.isLt
    have hn : n = ⟨b.toNat, hlt⟩ := Fin.ext hb.symm
    rw [hn]
    exact (if_pos hopen).trans (dif_pos hlt)
  · exact (if_pos hopen).trans (dif_neg (Nat.not_lt.mpr hb))

/-! ## Records refused (R86, R152, R162, R163, R167) -/

section
variable (hopen : s.lpt.inExchange = true)
include hopen

theorem exec_resume_notSafe (hmode : s.ssv.mode ≠ .safe) :
    exec .resume s = .next (s.endExchange.refuse .resume .state none) :=
  (if_pos hopen).trans (if_pos hmode)

theorem exec_setup_outOfRange (hmode : s.ssv.mode = .unconfigured) (hown : s.ssv.ownNumber ≠ 0) {r : SetupRecord} {i : Nat}
    (hrange : firstOutOfRange r = some i) : exec (.setup r) s = .next (s.endExchange.refuse .setup .range (some i)) := by
  change execSetup r s = _
  rw [execSetup, if_pos hopen, if_neg (not_not.mpr hmode), if_neg hown, hrange]

theorem exec_setup_accepted (hmode : s.ssv.mode = .unconfigured) (hown : s.ssv.ownNumber ≠ 0) {r : SetupRecord}
    (hrange : firstOutOfRange r = none) : exec (.setup r) s = .next (s.endExchange.acceptSetup (storedSetup r)) := by
  change execSetup r s = _
  rw [execSetup, if_pos hopen, if_neg (not_not.mpr hmode), if_neg hown, hrange]

end

/-- Settles O10: the refusals in the order their conditions are judged. -/
theorem recordsRefused : Obligations.RecordsRefused := by
  unfold Obligations.RecordsRefused
  intro s hopen refused
  refine ⟨fun hmode => ⟨fun r => ?_, ?_, ?_, ?_⟩, exec_resume_notSafe hopen, fun hmode hbar => ?_, fun hmode hreset => ?_,
    fun r hmode => ?_, fun r hmode hown => ?_, fun r i hmode hown hrange => ?_⟩
  · exact (if_pos hopen).trans (if_pos hmode)
  · exact (if_pos hopen).trans (if_pos hmode)
  · exact exec_resume_notSafe hopen (by simp [hmode])
  · exact (if_pos hopen).trans (if_pos hmode)
  · exact (if_pos hopen).trans ((if_neg (not_not.mpr hmode)).trans (if_pos hbar))
  · have hbusy : s.slc.line = .resetting ∨ s.slc.resetDrive ≠ .none := by
      rcases hreset with hline | hpending | hdriving
      · exact .inl hline
      · exact .inr (by simp [hpending])
      · exact .inr (by simp [hdriving])
    exact (if_pos hopen).trans ((if_neg hmode).trans (if_pos hbusy))
  · exact (if_pos hopen).trans (if_pos hmode)
  · exact (if_pos hopen).trans ((if_neg (not_not.mpr hmode)).trans (if_pos hown))
  · exact exec_setup_outOfRange hopen hmode hown hrange

end

end Sys2Proof.Machine
end

section
/-! PROOFS. The range check of SETUP, field by field (O11). -/

namespace Sys2Proof.Machine

/-! ## The two coded fields (10.4) -/

theorem BlockingMode.ofCode_isSome_iff (n : Nat) : (BlockingMode.ofCode n).isSome = true ↔ n ≤ 3 := by
  unfold BlockingMode.ofCode
  repeat' split
  all_goals simp
  all_goals omega

theorem withdrawOfCode_isSome_iff (n : Nat) : (withdrawOfCode n).isSome = true ↔ n ≤ 1 := by
  unfold withdrawOfCode
  repeat' split
  all_goals simp
  all_goals omega

/-! ## The first check that fails -/

theorem inRange_iff {lo hi n : Nat} : inRange lo hi n = true ↔ lo ≤ n ∧ n ≤ hi := by simp [inRange]

section
variable {r : SetupRecord} {P : Nat → Prop}

theorem setupChecks_indices (r : SetupRecord) : (setupChecks r).map Prod.fst = List.range' 1 25 := rfl

theorem firstOutOfRange_eq_none_iff : firstOutOfRange r = none ↔ ∀ c ∈ setupChecks r, c.2 = true := by
  simp [firstOutOfRange, List.find?_eq_none]

/-- The checks stand in order of index, so the first that fails has the least index (R162). -/
theorem firstOutOfRange_eq_find (hP : ∀ c ∈ setupChecks r, c.2 = true ↔ P c.1) [DecidablePred P] :
    firstOutOfRange r = (List.range' 1 25).find? fun i => !decide (P i) := by
  have hchecks : setupChecks r = (List.range' 1 25).map fun i => (i, decide (P i)) := by
    rw [← setupChecks_indices r, List.map_map]
    refine (List.map_id _).symm.trans (List.map_congr_left fun c hc => ?_)
    exact Prod.ext rfl (Bool.eq_iff_iff.mpr ((hP c hc).trans decide_eq_true_iff.symm))
  rw [firstOutOfRange, hchecks, List.find?_map, Option.map_map]
  exact Option.map_id' ..

/-- The check names the least index whose field is out of range, where an index that is none of a field counts as in range. -/
theorem firstOutOfRange_eq_some_iff (hP : ∀ c ∈ setupChecks r, c.2 = true ↔ P c.1)
    (hother : ∀ i, i = 0 ∨ 25 < i → P i) (i : Nat) :
    firstOutOfRange r = some i ↔ ¬P i ∧ ∀ j, j < i → P j := by
  classical
  rw [firstOutOfRange_eq_find hP, List.find?_range'_eq_some]
  simp only [Bool.not_eq_true', decide_eq_false_iff_not, List.mem_range'_1, Bool.not_not, decide_eq_true_eq]
  constructor
  · rintro ⟨hi, -, hleast⟩
    refine ⟨hi, fun j hj => ?_⟩
    by_cases h0 : j = 0
    · exact hother j (.inl h0)
    · exact hleast j (by omega) hj
  · rintro ⟨hi, hleast⟩
    have hfield : ¬(i = 0 ∨ 25 < i) := fun h => hi (hother i h)
    exact ⟨hi, by omega, fun j _ => hleast j⟩

theorem firstOutOfRange_eq_none_iff_forall (hP : ∀ c ∈ setupChecks r, c.2 = true ↔ P c.1)
    (hother : ∀ i, i = 0 ∨ 25 < i → P i) : firstOutOfRange r = none ↔ ∀ i, P i := by
  rw [firstOutOfRange_eq_none_iff]
  refine ⟨fun h i => ?_, fun h c hc => (hP c hc).mpr (h c.1)⟩
  by_cases hi : i = 0 ∨ 25 < i
  · exact hother i hi
  · have hindex : i ∈ (setupChecks r).map Prod.fst := by
      rw [setupChecks_indices, List.mem_range'_1]
      omega
    obtain ⟨c, hc, rfl⟩ := List.mem_map.mp hindex
    exact (hP c hc).mp (h c hc)

end

/-- A record passes exactly when the configuration it would store is in range and its two codes are defined. -/
theorem firstOutOfRange_eq_none_iff_stored (r : SetupRecord) :
    firstOutOfRange r = none ↔ (storedSetup r).InRange ∧ r.blockingMode.toNat ≤ 3 ∧ r.withdrawOnSlip.toNat ≤ 1 := by
  constructor
  · intro h
    have hall := firstOutOfRange_eq_none_iff.mp h
    refine ⟨storedSetup_inRange h, ?_, ?_⟩
    · exact (BlockingMode.ofCode_isSome_iff _).mp (hall (16, (BlockingMode.ofCode r.blockingMode.toNat).isSome)
        (by simp [setupChecks]))
    · exact (withdrawOfCode_isSome_iff _).mp (hall (18, (withdrawOfCode r.withdrawOnSlip.toNat).isSome)
        (by simp [setupChecks]))
  · rintro ⟨hrange, hblocking, hwithdraw⟩
    rw [firstOutOfRange_eq_none_iff]
    simp only [setupChecks, List.forall_mem_cons, inRange_iff, BlockingMode.ofCode_isSome_iff, withdrawOfCode_isSome_iff,
      Bool.and_eq_true, decide_eq_true_eq]
    exact ⟨hrange.channelCount, hrange.teeth, hrange.circumference, hrange.minToothPeriod, hrange.gearRatio,
      hrange.publishPeriod, hrange.silenceTimeout, hrange.demandTimeout, hrange.measureTimeout, hrange.rampLimit,
      hrange.loadTransfer, hrange.slipSampleInterval, hrange.slipThreshold, hrange.confirmNumber,
      ⟨Nat.zero_le _, hrange.settleTime⟩, hblocking, ⟨Nat.zero_le _, hrange.launchSpeed⟩, hwithdraw,
      hrange.recoveryInterval, hrange.recoveryStep, hrange.sagThreshold, ⟨Nat.zero_le _, hrange.sagCap⟩,
      hrange.discordBand, hrange.noticeThreshold, hrange.interimTime, nofun⟩

/-- Settles O11: each check is its field's range, and the checks stand in order of index. -/
theorem setupRangeCheck : Obligations.SetupRangeCheck := by
  unfold Obligations.SetupRangeCheck
  intro r fieldInRange
  have hfields : ∀ c ∈ setupChecks r, c.2 = true ↔ fieldInRange c.1 := by
    simp only [setupChecks, List.forall_mem_cons, inRange_iff, BlockingMode.ofCode_isSome_iff, withdrawOfCode_isSome_iff,
      Bool.and_eq_true, decide_eq_true_eq, Nat.zero_le, true_and, fieldInRange]
    simp
  have hother : ∀ i, i = 0 ∨ 25 < i → fieldInRange i := by
    rintro i (rfl | hi)
    · trivial
    · obtain ⟨k, rfl⟩ := Nat.exists_eq_add_of_le' hi
      trivial
  exact ⟨firstOutOfRange_eq_none_iff_forall hfields hother, firstOutOfRange_eq_some_iff hfields hother,
    firstOutOfRange_eq_none_iff_stored r⟩

end Sys2Proof.Machine
end

section
/-! PROOFS. SETUP and MEASURE accepted (O12, O13). -/

namespace Sys2Proof.Machine

/-! ## The configuration stored (R162, 10.4) -/

theorem BlockingMode.ofCode_getD {b : Byte} (h : b.toNat ≤ 3) :
    (BlockingMode.ofCode b.toNat).getD .none =
      if b = 0 then .none else if b = 1 then .ramp else if b = 2 then .launch else .rampAndLaunch := by
  obtain rfl | rfl | rfl | rfl : b = 0 ∨ b = 1 ∨ b = 2 ∨ b = 3 := by bv_omega
  all_goals rfl

theorem withdrawOfCode_getD {b : Byte} (h : b.toNat ≤ 1) : (withdrawOfCode b.toNat).getD false = decide (b = 1) := by
  obtain rfl | rfl : b = 0 ∨ b = 1 := by bv_omega
  all_goals rfl

theorem toNat_beq_two (b : Byte) : (b.toNat == 2) = decide (b = 2) := by
  rw [Bool.eq_iff_iff, beq_iff_eq, decide_eq_true_iff]
  bv_omega

/-! ## SETUP accepted (R162, R171 to R174) -/

section
variable {s : State} (c : Setup)

/-- The interim timer started at SETUP acceptance is not EXPIRED, so the notice line follows the threshold alone (R173, R174). -/
theorem State.startInterim_lpt :
    s.startInterim.lpt =
      { s.lpt with
        interim := .running s.config.interimTime
        ntc := decide (s.noticeThreshold ≤ s.lpt.notices.length) } := by
  simp [State.startInterim, LocalPort.setNtc, ntcCondition_eq]

/-- The Local Port after SETUP acceptance, its notice joined or lost (R162, R171). -/
theorem State.acceptSetup_lpt :
    let notices := if s.lpt.notices.length < 16
      then s.lpt.notices ++ [⟨.setupAccepted, some s.ssv.ownNumber, none, s.lpt.msCount⟩] else s.lpt.notices
    (s.acceptSetup c).lpt =
      { s.lpt with
        reply := some (.ack .setup)
        notices := notices
        noticesLost := if s.lpt.notices.length < 16 then s.lpt.noticesLost else min 255 (s.lpt.noticesLost + 1)
        interim := .running c.interimTime
        ntc := decide (c.noticeThreshold ≤ notices.length) } := by
  rw [State.acceptSetup, State.place_lpt, State.startInterim_lpt]
  rcases Nat.lt_or_ge s.lpt.notices.length 16 with hroom | hfull
  · rw [State.notify_of_room _ _ _ (by exact hroom), if_pos hroom, if_pos hroom]
    rfl
  · rw [State.notify_of_full _ _ _ (by exact hfull), if_neg (Nat.not_lt.mpr hfull), if_neg (Nat.not_lt.mpr hfull)]
    rfl

end

/-- Settles O12: the other blocks as SETUP configures them, and the Local Port with its notice. -/
theorem setupAccepted : Obligations.SetupAccepted := by
  unfold Obligations.SetupAccepted
  intro r s hopen hmode hown hrange notices
  obtain ⟨-, hblocking, hwithdraw⟩ := (firstOutOfRange_eq_none_iff_stored r).mp hrange
  have haccept : s.endExchange.acceptSetup (storedSetup r) =
      { s.endExchange.configure (storedSetup r) with lpt := (s.endExchange.acceptSetup (storedSetup r)).lpt } := rfl
  rw [exec_setup_accepted hopen hmode hown hrange, haccept, State.acceptSetup_lpt, State.configure, storedSetup,
    BlockingMode.ofCode_getD hblocking, withdrawOfCode_getD hwithdraw, WheelUnit.configured, toNat_beq_two]
  rfl

/-! ## MEASURE accepted (R154, R163, R164) -/

theorem exec_measure_accepted {s : State} (hopen : s.lpt.inExchange = true) (hmode : s.ssv.mode ≠ .unconfigured)
    (r : MeasureRecord) : exec (.measure r) s = .next (s.endExchange.acceptMeasure r) :=
  (if_pos hopen).trans (if_neg hmode)

theorem measureOutOfRange_iff (r : MeasureRecord) :
    measureOutOfRange r = true ↔
      10000 < r.availProp.toNat ∨ 10000 < r.availRet.toNat ∨ 1000 < r.voltage.toNat ∨ 1000 < r.load.toNat := by
  simp [measureOutOfRange, or_assoc]

/-- The measure timer restarted by a MEASURE (R154). -/
def State.measureTimed (s : State) : State :=
  { s with ssv := { s.ssv with measureTimer := .running s.config.measureTimeout } }

theorem State.measureNoted_eq (s : State) (r : MeasureRecord) : s.measureNoted r = (s.noteClamp r).measureTimed := rfl

/-- A clamp noted: the CLAMPED flag and its notice (R163). -/
def State.clampNoted (s : State) (r : MeasureRecord) : State :=
  { s with lpt := { s.lpt with clamped := true } : State }.notify .clamped none (some r.seq.toNat)

theorem State.noteClamp_inRange {r : MeasureRecord} (h : ¬measureOutOfRange r = true) (s : State) : s.noteClamp r = s :=
  if_neg h

theorem State.noteClamp_outOfRange {r : MeasureRecord} (h : measureOutOfRange r = true) (s : State) :
    s.noteClamp r = s.clampNoted r :=
  if_pos h

theorem State.holdMeasure_free {s : State} (h : s.lpt.holding = none) (m : Measure) :
    s.holdMeasure m = { s with lpt := { s.lpt with holding := some m } } := by
  simp only [State.holdMeasure, h]

theorem State.holdMeasure_overrun {s : State} {old : Measure} (h : s.lpt.holding = some old) (m : Measure) :
    s.holdMeasure m =
      { s with
        lpt := { s.lpt with
          holding := some m, overruns := min 255 (s.lpt.overruns + 1), overrunSeen := true } : State }.notify
        .measureOverrun none (some old.seq.toNat) := by
  simp only [State.holdMeasure, h]
  rfl

theorem clampMeasure_inRange {r : MeasureRecord} (hprop : r.availProp.toNat ≤ 10000) (hret : r.availRet.toNat ≤ 10000)
    (hvoltage : r.voltage.toNat ≤ 1000) (hload : r.load.toNat ≤ 1000) :
    clampMeasure r = ⟨r.seq, r.availProp.toNat, r.availRet.toNat, r.voltage.toNat, r.load.toNat⟩ := by
  simp [clampMeasure, clampTop, hprop, hret, hvoltage, hload]

/-! ## The record of a clamped MEASURE (R163) -/

/-- A field brought down to the end of its range. -/
def clampHalf (hi : Nat) (x : Half) : Half := if hi < x.toNat then BitVec.ofNat 16 hi else x

theorem clampHalf_toNat {hi : Nat} (h : hi < 2 ^ 16) (x : Half) : (clampHalf hi x).toNat = min x.toNat hi := by
  unfold clampHalf
  split
  · rw [BitVec.toNat_ofNat, Nat.mod_eq_of_lt h]
    omega
  · omega

/-- A MEASURE record with its fields clamped to their ranges. -/
def clampRecord (r : MeasureRecord) : MeasureRecord :=
  ⟨r.seq, clampHalf 10000 r.availProp, clampHalf 10000 r.availRet, clampHalf 1000 r.voltage, clampHalf 1000 r.load⟩

theorem clampRecord_inRange (r : MeasureRecord) : ¬measureOutOfRange (clampRecord r) = true := by
  simp only [measureOutOfRange_iff, clampRecord, clampHalf_toNat (show 10000 < 2 ^ 16 by decide),
    clampHalf_toNat (show 1000 < 2 ^ 16 by decide)]
  omega

theorem clampMeasure_clampRecord (r : MeasureRecord) : clampMeasure (clampRecord r) = clampMeasure r := by
  simp only [clampMeasure, clampTop, clampRecord, clampHalf_toNat (show 10000 < 2 ^ 16 by decide),
    clampHalf_toNat (show 1000 < 2 ^ 16 by decide), min_assoc, min_self]

/-- The end of an exchange and a notice do not touch each other's fields. -/
theorem State.endExchange_notify (s : State) (kind : NoticeKind) (station : Option StationNumber) (value : Option Nat) :
    s.endExchange.notify kind station value = (s.notify kind station value).endExchange := by
  rcases Nat.lt_or_ge s.lpt.notices.length 16 with hroom | hfull
  · rw [State.notify_of_room kind station value hroom, State.notify_of_room kind station value (by exact hroom)]
    rfl
  · rw [State.notify_of_full kind station value hfull, State.notify_of_full kind station value (by exact hfull)]
    rfl

/-- A MEASURE out of range is taken as its clamped record, behind its notice (R163). -/
theorem State.acceptMeasure_outOfRange {r : MeasureRecord} (h : measureOutOfRange r = true) (s : State) :
    s.endExchange.acceptMeasure r = (s.clampNoted r).endExchange.acceptMeasure (clampRecord r) := by
  have hnoted : s.endExchange.noteClamp r = (s.clampNoted r).endExchange :=
    (State.noteClamp_outOfRange h _).trans
      (State.endExchange_notify { s with lpt := { s.lpt with clamped := true } } .clamped none (some r.seq.toNat))
  rw [State.acceptMeasure_eq, State.acceptMeasure_eq, State.measureNoted_eq, State.measureNoted_eq, hnoted,
    State.noteClamp_inRange (clampRecord_inRange r), clampMeasure_clampRecord]
  rfl

/-- Settles O13: a MEASURE in range by the Split Engine and the holding slot, and one out of range as its clamped record. -/
theorem measureAccepted : Obligations.MeasureAccepted := by
  unfold Obligations.MeasureAccepted
  refine ⟨fun r s hopen hmode hprop hret hvoltage hload => ?_, fun r s hopen hmode hout => ?_⟩
  · intro m ssv
    have hin : ¬measureOutOfRange r = true := by
      rw [measureOutOfRange_iff]
      omega
    rw [exec_measure_accepted hopen hmode, State.acceptMeasure_eq, State.measureNoted_eq, State.noteClamp_inRange hin,
      clampMeasure_inRange hprop hret hvoltage hload]
    refine ⟨fun hidle => ?_, fun hbusy hempty => ?_, fun old hbusy hheld => ?_⟩
    · rw [if_neg (by simp [hidle])]
      rfl
    · rw [if_pos (by exact hbusy), State.holdMeasure_free (by exact hempty)]
      rfl
    · rw [if_pos (by exact hbusy), State.holdMeasure_overrun (by exact hheld)]
      rfl
  · have hopen' : (s.clampNoted r).lpt.inExchange = true := (State.notify_inExchange ..).trans hopen
    have hclamped := (exec_measure_accepted hopen' hmode (clampRecord r)).symm
    rw [exec_measure_accepted hopen hmode, State.acceptMeasure_outOfRange ((measureOutOfRange_iff r).mpr hout)]
    exact hclamped

end Sys2Proof.Machine
end


section
/-! PROOFS. A record in from its bytes (O9, O52): its check, its kind, its fields, and the bytes written by the same layouts. -/

namespace Sys2Proof.Machine

/-! ## The check byte (R160, R176) -/

theorem byteSum_append (bs : List Byte) (b : Byte) : byteSum (bs ++ [b]) = byteSum bs + b := by
  simp [byteSum]

theorem byteSum_toNat (bs : List Byte) : (byteSum bs).toNat = (bs.map BitVec.toNat).sum % 256 := by
  induction bs using List.reverseRecOn with
  | nil => rfl
  | append_singleton bs b ih =>
    rw [byteSum_append, BitVec.toNat_add, ih]
    simp

theorem byteSum_eq_zero_iff {bs : List Byte} : byteSum bs = 0 ↔ (bs.map BitVec.toNat).sum % 256 = 0 := by
  rw [← byteSum_toNat, ← BitVec.toNat_inj]
  rfl

@[simp] theorem sealRecord_length (body : List Byte) : (sealRecord body).length = 48 := by simp [sealRecord]

/-- The check byte brings the sum to 0 (R160). -/
@[simp] theorem byteSum_sealRecord (body : List Byte) : byteSum (sealRecord body) = 0 := by
  rw [sealRecord, byteSum_append, ← BitVec.sub_eq_add_neg, BitVec.sub_self]
  rfl

/-- Bytes 1 to 47 of a sealed record are those of its body, zeros past its end. -/
theorem byteAt_sealRecord {body : List Byte} {k : Nat} (h1 : 1 ≤ k) (hk : k ≤ 47) :
    byteAt (sealRecord body) k = byteAt body k := by
  simp only [byteAt, sealRecord, List.getD_eq_getElem?_getD]
  rw [List.getElem?_append_left (by simp; omega), List.getElem?_take_of_lt (by omega)]
  by_cases hbody : k - 1 < body.length
  · rw [List.getElem?_append_left hbody]
  · have hpad : k - 1 - body.length < 47 := by omega
    rw [List.getElem?_append_right (by omega), List.getElem?_replicate_of_lt hpad, List.getElem?_eq_none (by omega)]
    rfl

theorem halfAt_sealRecord {body : List Byte} {k : Nat} (h1 : 1 ≤ k) (hk : k + 1 ≤ 47) :
    halfAt (sealRecord body) k = halfAt body k := by
  rw [halfAt, halfAt, byteAt_sealRecord (by omega) hk, byteAt_sealRecord h1 (by omega)]

/-! ## The command of a record (R160, R168, R178) -/

section
variable {bs : List Byte}

theorem recordCommand_short {k : Fin 48} (h : bs.length = k.val) : recordCommand bs = .shortExchange k := by
  have hlt : bs.length < 48 := h ▸ k.isLt
  rw [recordCommand, dif_pos hlt]
  exact congrArg Instr.shortExchange (Fin.ext h)

theorem recordCommand_checkFail (h : 48 ≤ bs.length) (hsum : byteSum (bs.take 48) ≠ 0) :
    recordCommand bs = .checkByteFail := by
  rw [recordCommand, dif_neg (Nat.not_lt.mpr h), if_pos hsum]

/-- Of the bytes of a record only 1 to 47 are read for its kind and its fields. -/
theorem recordByKind_congr {bs cs : List Byte} (h : ∀ k, 1 ≤ k → k ≤ 47 → byteAt bs k = byteAt cs k) :
    recordByKind bs = recordByKind cs := by
  have hhalf : ∀ k, 1 ≤ k → k + 1 ≤ 47 → halfAt bs k = halfAt cs k := fun k h1 hk => by
    rw [halfAt, halfAt, h _ (by omega) hk, h _ h1 (by omega)]
  have hsetup : setupFields bs = setupFields cs := by
    simp [setupFields, h, hhalf]
  have hmeasure : measureFields bs = measureFields cs := by
    simp [measureFields, h, hhalf]
  rw [recordByKind, recordByKind, hsetup, hmeasure, h 1 (by decide) (by decide), h 2 (by decide) (by decide)]

theorem recordCommand_record (h : 48 ≤ bs.length) (hsum : byteSum (bs.take 48) = 0) :
    recordCommand bs = recordByKind bs := by
  rw [recordCommand, dif_neg (Nat.not_lt.mpr h), if_neg (not_not.mpr hsum)]
  exact recordByKind_congr fun k h1 hk => byteAt_take h1 (by omega)

theorem recordCommand_sealRecord (body : List Byte) : recordCommand (sealRecord body) = recordByKind body := by
  rw [recordCommand_record (by simp) (by rw [List.take_of_length_le (by simp), byteSum_sealRecord])]
  exact recordByKind_congr fun k h1 hk => byteAt_sealRecord h1 hk

/-! ## Kinds (10.4) -/

theorem recordByKind_setup (h : byteAt bs 1 = 1) : recordByKind bs = .setup (setupFields bs) := if_pos h

theorem recordByKind_measure (h : byteAt bs 1 = 2) : recordByKind bs = .measure (measureFields bs) := by
  simp [recordByKind, h]

theorem recordByKind_takeNotice (h : byteAt bs 1 = 3) : recordByKind bs = .takeNotice := by simp [recordByKind, h]

theorem recordByKind_readPeer (h : byteAt bs 1 = 4) : recordByKind bs = .readPeer (byteAt bs 2) := by
  simp [recordByKind, h]

theorem recordByKind_safeRequest (h : byteAt bs 1 = 5) : recordByKind bs = .safeRequest := by simp [recordByKind, h]

theorem recordByKind_resume (h : byteAt bs 1 = 6) : recordByKind bs = .resume := by simp [recordByKind, h]

theorem recordByKind_linkResetRequest (h : byteAt bs 1 = 7) : recordByKind bs = .linkResetRequest := by
  simp [recordByKind, h]

theorem recordByKind_nop (h : byteAt bs 1 = 8) : recordByKind bs = .nop := by simp [recordByKind, h]

theorem recordByKind_unknown (h : byteAt bs 1 = 0 ∨ 8 < (byteAt bs 1).toNat) :
    recordByKind bs = .unknownRecordKind (byteAt bs 1) := by
  have hother : ∀ k : Byte, 1 ≤ k.toNat → k.toNat ≤ 8 → byteAt bs 1 ≠ k := by
    rintro k h1 h8 rfl
    rcases h with h | h
    · simp [h] at h1
    · omega
  rw [recordByKind, if_neg (hother 1 (by decide) (by decide)), if_neg (hother 2 (by decide) (by decide)),
    if_neg (hother 3 (by decide) (by decide)), if_neg (hother 4 (by decide) (by decide)),
    if_neg (hother 5 (by decide) (by decide)), if_neg (hother 6 (by decide) (by decide)),
    if_neg (hother 7 (by decide) (by decide)), if_neg (hother 8 (by decide) (by decide))]

end

/-- Settles O9: NOP and an unknown kind as commands, and as the kind byte of a record. -/
theorem nopAndUnknownKinds : Obligations.NopAndUnknownKinds := by
  unfold Obligations.NopAndUnknownKinds
  refine ⟨fun s hopen => if_pos hopen, fun code s hopen => if_pos hopen, fun code rest hlength hsum => ?_⟩
  have hwhole : (code :: rest).length = 48 := by simp [hlength]
  rw [recordCommand_record hwhole.ge (by rwa [List.take_of_length_le hwhole.le])]
  exact ⟨fun hnop => recordByKind_nop hnop, fun hunknown => recordByKind_unknown hunknown⟩

/-! ## Records written by 10.3 -/

theorem setupFields_written (r : SetupRecord) :
    setupFields ([1, r.channelCount, r.teeth] ++ halfBytes r.circumference ++ halfBytes r.minToothPeriod
        ++ halfBytes r.gearRatio ++ [r.publishPeriod, r.silenceTimeout, r.demandTimeout, r.measureTimeout]
        ++ halfBytes r.rampLimit ++ [r.loadTransfer, r.slipSampleInterval] ++ halfBytes r.slipThreshold
        ++ [r.confirmNumber] ++ halfBytes r.settleTime ++ [r.blockingMode] ++ halfBytes r.launchSpeed
        ++ [r.withdrawOnSlip] ++ halfBytes r.recoveryInterval ++ halfBytes r.recoveryStep ++ halfBytes r.sagThreshold
        ++ halfBytes r.sagCap ++ halfBytes r.discordBand ++ [r.noticeThreshold, r.interimTime]) = r := by
  simp [setupFields, byteAt, halfAt, halfBytes, half_of_bytes]

theorem measureFields_written (r : MeasureRecord) :
    measureFields ([2, r.seq] ++ halfBytes r.availProp ++ halfBytes r.availRet ++ halfBytes r.voltage
      ++ halfBytes r.load) = r := by
  simp [measureFields, byteAt, halfAt, halfBytes, half_of_bytes]

/-- A code of no incoming kind is 0 or above 8 (10.4). -/
theorem unknown_of_not_isIncomingKind {code : Byte} (h : (!isIncomingKind code) = true) : code = 0 ∨ 8 < code.toNat := by
  simp only [isIncomingKind, Bool.not_eq_true', Bool.and_eq_false_iff, decide_eq_false_iff_not] at h
  bv_omega

/-- Every record is a sealed body that its kind byte and its fields read back (10.3). -/
theorem recordBytes_sealed {c : Instr} {bs : List Byte} (hc : c.wellFormed = true) (h : recordBytes c = some bs) :
    ∃ body, bs = sealRecord body ∧ recordByKind body = c := by
  cases c
  case setup r =>
    refine ⟨_, (Option.some.inj h).symm, ?_⟩
    rw [recordByKind_setup (by simp [byteAt]), setupFields_written]
  case measure r =>
    refine ⟨_, (Option.some.inj h).symm, ?_⟩
    rw [recordByKind_measure (by simp [byteAt]), measureFields_written]
  case unknownRecordKind code =>
    exact ⟨_, (Option.some.inj h).symm, recordByKind_unknown (unknown_of_not_isIncomingKind hc)⟩
  case takeNotice | readPeer | safeRequest | resume | linkResetRequest | nop =>
    exact ⟨_, (Option.some.inj h).symm, rfl⟩
  all_goals cases h

/-! ## The bits of a record (R159, R160) -/

theorem wholeBytes_short {rest : List Bool} (h : rest.length < 8) : wholeBytes rest = [] := by
  unfold wholeBytes
  split
  · simp at h
    omega
  · rfl

/-- A partly clocked last byte does not count (R160). -/
theorem wholeBytes_clocked (bs : List Byte) {rest : List Bool} (h : rest.length < 8) :
    wholeBytes (bs.flatMap (fun b => (List.range 8).map b.getLsbD) ++ rest) = bs := by
  induction bs with
  | nil => exact wholeBytes_short h
  | cons b bs ih =>
    rw [List.flatMap_cons, List.append_assoc]
    change byteOfBits (b.getLsbD 0) (b.getLsbD 1) (b.getLsbD 2) (b.getLsbD 3) (b.getLsbD 4) (b.getLsbD 5) (b.getLsbD 6)
      (b.getLsbD 7) :: wholeBytes _ = _
    rw [byteOfBits_getLsbD]
    exact congrArg (b :: ·) ih

end Sys2Proof.Machine
end

section
/-! PROOFS. A record out as bytes and as bits (O52): the fields of each kind, the flags, the unused bytes, and PSDO. -/

namespace Sys2Proof.Machine

/-! ## Flags (R176) -/

theorem flagByte_testBit (bits : List Bool) (i : Nat) : (flagByte bits).testBit i = bits.getD i false := by
  induction bits generalizing i with
  | nil => simp [flagByte]
  | cons b bits ih =>
    cases i with
    | zero => cases b <;> simp [flagByte]
    | succ i =>
      have hhalf : (b.toNat + 2 * flagByte bits) / 2 = flagByte bits := by cases b <;> simp; omega
      rw [flagByte, Nat.testBit_succ, hhalf, ih, List.getD_cons_succ]

/-- A byte of flags carries up to eight of them, bit 0 first, and zeros above. -/
theorem u8_flagByte_getLsbD {bits : List Bool} (h : bits.length ≤ 8) (i : Nat) :
    (u8 (flagByte bits)).getLsbD i = bits.getD i false := by
  rw [u8, BitVec.getLsbD_ofNat, flagByte_testBit]
  by_cases hi : i < 8
  · simp [hi]
  · rw [List.getD_eq_default _ _ (by omega)]
    simp

/-- Flags from bit 4 up, above four bits of 0. -/
theorem flagByte_shift (bits : List Bool) :
    16 * flagByte bits = flagByte ([false, false, false, false] ++ bits) := by
  simp [flagByte]
  omega

/-! ## The fields of an outgoing record (R159, R160) -/

theorem OutRecord.byteAt_bytes (r : OutRecord) {k : Nat} (h1 : 1 ≤ k) (hk : k ≤ 47) :
    byteAt r.bytes k = byteAt (r.code :: r.fields) k :=
  byteAt_sealRecord h1 hk

theorem OutRecord.halfAt_bytes (r : OutRecord) {k : Nat} (h1 : 1 ≤ k) (hk : k + 1 ≤ 47) :
    halfAt r.bytes k = halfAt (r.code :: r.fields) k :=
  halfAt_sealRecord h1 hk

/-- The bytes past the fields of a record are 0, up to its check byte. -/
theorem OutRecord.unused {r : OutRecord} {k : Nat} (hlength : (r.code :: r.fields).length < k) (i : Nat) (hi : k ≤ i)
    (h47 : i ≤ 47) : byteAt r.bytes i = 0 := by
  rw [r.byteAt_bytes (by omega) h47, byteAt, List.getD_eq_default _ _ (by omega)]

/-- The flags of a record, at their byte (R176). -/
theorem OutRecord.flags_at (r : OutRecord) (k : Nat) (bits : List Bool) (h1 : 1 ≤ k) (hk : k ≤ 47)
    (hbits : bits.length ≤ 8) (h : byteAt (r.code :: r.fields) k = u8 (flagByte bits)) (i : Nat) :
    (byteAt r.bytes k).getLsbD i = bits.getD i false := by
  rw [r.byteAt_bytes h1 hk, h, u8_flagByte_getLsbD hbits]

theorem u8_timerRuns (t : Timer) : u8 (t != .stopped).toNat = if t = .stopped then 0 else 1 := by
  cases t <;> rfl

/-! ## PSDO (R158, R159) -/

section
variable {l : LocalPort} {r : OutRecord}

theorem LocalPort.psdo_atRest (h : l.inExchange = false) (n : Nat) : l.psdo n = none := by
  rw [psdo, h]
  rfl

/-- The 48 bytes of the record take the first 384 bit clocks; zeros follow. -/
theorem LocalPort.psdo_sending (hopen : l.inExchange = true) (hout : l.outgoing = some r) (n : Nat) :
    l.psdo n = some (if n < 384 then (byteAt r.bytes (n / 8 + 1)).getLsbD (n % 8) else false) := by
  rw [psdo, if_pos hopen, hout, Option.map_some, OutRecord.byteOut, Config.recordLength]
  by_cases hn : n < 384
  · rw [if_pos hn, if_pos (by omega)]
  · rw [if_neg hn, if_neg (by omega)]
    simp

end

/-! ## Records as bytes -/

/-- Settles O52: in by the kind byte, back from what was written, through the buffer and the bits, out field by field. -/
theorem recordsReadBack : Obligations.RecordsReadBack := by
  unfold Obligations.RecordsReadBack
  intro byte half sum
  have hbyte : byte = byteAt := rfl
  have hhalf : half = halfAt := rfl
  clear_value half byte
  subst hbyte hhalf
  refine ⟨fun bs => ⟨fun k => recordCommand_short, fun h hsum => ?_, fun h hsum => ?_⟩, fun c bs hc h => ?_,
    fun bs s => s.withRecordBytes_eq bs, fun bs rest s hrest => ?_, fun r => ⟨sealRecord_length _, ?_⟩, ?_, ?_,
    fun l n => ⟨fun h => LocalPort.psdo_atRest h n, fun r hopen hout => LocalPort.psdo_sending hopen hout n⟩⟩
  · exact recordCommand_checkFail h (mt byteSum_eq_zero_iff.mp hsum)
  · rw [recordCommand_record h (byteSum_eq_zero_iff.mpr hsum)]
    exact ⟨recordByKind_setup, recordByKind_measure, recordByKind_takeNotice, recordByKind_readPeer,
      recordByKind_safeRequest, recordByKind_resume, recordByKind_linkResetRequest, recordByKind_nop, recordByKind_unknown⟩
  · obtain ⟨body, rfl, hbody⟩ := recordBytes_sealed hc h
    exact ⟨sealRecord_length _, byteSum_eq_zero_iff.mp (byteSum_sealRecord _), (recordCommand_sealRecord _).trans hbody⟩
  · rw [State.withRecordBits, wholeBytes_clocked bs hrest]
  · exact byteSum_eq_zero_iff.mp (byteSum_sealRecord _)
  · intro unusedFrom flags
    -- the bytes of each kind, in order, so that a field is its place in a list
    simp (disch := decide) only [OutRecord.byteAt_bytes, OutRecord.halfAt_bytes, OutRecord.fields, StateView.fields,
      refuseFields, noticeFields, DemandRecord.fields, SelfView.fields, PeerEntry.fields, u16, i16, halfBytes,
      List.cons_append, List.nil_append]
    refine ⟨fun v => ?_, fun k => ?_, fun kind reason index => ?_, fun left => ?_, fun n left => ?_, fun d => ?_,
      fun v => ?_, fun n e => ?_⟩
    · exact ⟨rfl, rfl, rfl, by cases v.faultCause <;> rfl, rfl, rfl, half_of_bytes _, half_of_bytes _, half_of_bytes _,
        half_of_bytes _, rfl, rfl, half_of_bytes _, rfl, rfl, rfl, rfl, rfl, rfl, rfl, rfl,
        OutRecord.flags_at _ 27 _ (by decide) (by decide) (Nat.le_add_left 6 2) rfl, OutRecord.unused (Nat.le_refl 28)⟩
    · exact ⟨rfl, rfl, OutRecord.unused (Nat.le_refl 3)⟩
    · exact ⟨rfl, OutRecord.flags_at _ 2 _ (by decide) (by decide) (Nat.le_add_left 2 6) rfl, rfl, rfl, rfl,
        OutRecord.unused (Nat.le_refl 6)⟩
    · refine ⟨rfl, fun i hi h47 => ?_⟩
      rcases Nat.lt_or_ge i 10 with hfield | hpast
      · interval_cases i <;> rfl
      · exact OutRecord.unused (Nat.le_refl 10) i hpast h47
    · exact ⟨rfl, rfl, OutRecord.flags_at _ 3 _ (by decide) (by decide) (Nat.le_add_left 3 5) rfl,
        by cases n.station <;> rfl, half_of_bytes _, half_of_bytes _, rfl, OutRecord.unused (Nat.le_refl 10)⟩
    · exact ⟨rfl, rfl, rfl, OutRecord.flags_at _ 4 _ (by decide) (by decide) (Nat.le_add_left 1 7) rfl, half_of_bytes _,
        rfl, rfl, rfl, u8_timerRuns d.timer, OutRecord.unused (Nat.le_refl 11)⟩
    · exact ⟨rfl, rfl, rfl, OutRecord.flags_at _ 4 _ (by decide) (by decide) (Nat.le_add_left 3 5) rfl, rfl,
        by cases v.health <;> rfl,
        OutRecord.flags_at _ 7 _ (by decide) (by decide) (Nat.le_add_left 7 1) (congrArg u8 (flagByte_shift _)),
        half_of_bytes _, half_of_bytes _, half_of_bytes _, half_of_bytes _, half_of_bytes _, rfl, rfl, rfl, rfl, rfl, rfl, rfl,
        rfl, rfl, rfl, OutRecord.unused (Nat.le_refl 28)⟩
    · have hruns : decide (e.silenceTimer ≠ .stopped) = (e.silenceTimer != .stopped) := by cases e.silenceTimer <;> rfl
      rw [hruns]
      exact ⟨rfl, rfl, rfl, OutRecord.flags_at _ 4 _ (by decide) (by decide) (Nat.le_add_left 5 3) rfl, rfl, rfl, rfl,
        by cases e.health <;> rfl, half_of_bytes _, half_of_bytes _, half_of_bytes _, half_of_bytes _, half_of_bytes _,
        rfl, OutRecord.flags_at _ 20 _ (by decide) (by decide) (Nat.le_add_left 4 4) rfl, rfl, half_of_bytes _,
        by cases e.lastFaultCause <;> rfl, rfl, OutRecord.unused (Nat.le_refl 26)⟩
  · decide

end Sys2Proof.Machine
end

section
/-! PROOFS. The step and the queue (O1): the front command on the rest, and the idle step. -/

namespace Sys2Proof.Machine

/-- The command at the front runs on the queue's rest (log 1). -/
theorem step_of_pending_cons {c : Instr} {rest : List Instr} {s : State} (hqueue : s.pending = c :: rest) :
    step s = exec c { s with pending := rest } := by
  simp only [step, hqueue]

/-- On an empty queue the block idles (log 1). -/
theorem step_of_pending_nil {s : State} (hqueue : s.pending = []) : step s = .next s := by
  simp only [step, hqueue]

/-- Settles O1: the two cases of the queue, waiting and empty. -/
theorem stepRunsFrontCommand : Obligations.StepRunsFrontCommand := by
  unfold Obligations.StepRunsFrontCommand
  constructor
  · intro c rest s hqueue
    exact step_of_pending_cons hqueue
  · intro s hqueue
    exact step_of_pending_nil hqueue

end Sys2Proof.Machine
end
